-- ==== Sys2Proof/Word.lean ====
section
/-! DEFINITION. The words the part's wires and frames carry, and the few sizes the whole model uses. -/

namespace Sys2Proof

/-- One byte of a frame (11.2). -/
abbrev Byte := BitVec 8

/-- A frame's tag, and a probe tag: 16 bits (11.2, R102). -/
abbrev Tag := BitVec 16

/-- A set of lanes: bit `n` is lane LPn (11.1, "Lane set"). -/
abbrev LaneSet := BitVec 16

/-- A set of alert flags: bits 0 to 12 in the order of the alert table (11.1, "Alert set or mask"). -/
abbrev AlertSet := BitVec 13

end Sys2Proof
end

