-- ==== Sys2Proof/Syntax.lean ====
section
/-! DEFINITION. The part's commands: one constructor for each row of spec/opcode_table.json.

Every command that happens while the part runs carries `dt`, the nominal nanoseconds that the raw count has
advanced since the step before it: the instant of an event is part of the event (assumption 1). The commands of
power and reset carry none, since no exchange time runs across them. -/

namespace Sys2Proof

/-- The two edges of a pulse input; the code of SET_REFERENCE is RISING 0, FALLING 1 (11.6). -/
inductive Edge where
  | rising
  | falling
  deriving DecidableEq, Repr

/-- Where the whole frame of a request, with a good check, has ended, with its tag and payload: at a lane, where it is taken
at once or waits in the request queue (R70, R71), or in a WRITE transaction at its release (R152, R153). The frame's kind is
the command's. -/
inductive Source where
  | lane (l : Fin 16) (tag : Tag) (payload : List Byte)
  | ops (tag : Tag) (payload : List Byte)
  deriving DecidableEq, Repr

/-- Where a whole frame ends: at a lane, or in a WRITE transaction at the operations port. -/
inductive FramePort where
  | lane (l : Fin 16)
  | ops
  deriving DecidableEq, Repr

/-- What OPS_READ stands for at the SPI port: the first byte of a transaction, and the release of a READ (R151, R154, 11.7). -/
inductive OpsTransfer where
  /-- The first byte of a transaction has been shifted in, and the status byte out against it: READ (90), WRITE (165), or any
  other byte (R151). Until then every transaction is alike, so the table has no other row for it (assumption 24). -/
  | begins (first : Byte)
  /-- Chip select is released after the last byte of the held reply. -/
  | complete
  /-- Chip select is released with `clocked` bytes shifted out after the status byte. -/
  | released (clocked : Nat)
  deriving DecidableEq, Repr

inductive Instr where
  /-- An edge on the pulse input of port `p`, with the 48 code lines and the error line as they stand at it (R23). -/
  | pulseEdge (dt : Nat) (p : Fin 4) (edge : Edge) (lines : BitVec 48) (error : Bool)
  /-- The tenth character of a message at RP2 or RP3: its ten characters, and whether one had a framing error (R27, R170). -/
  | announcement (dt : Nat) (p : Fin 4) (chars : List Byte) (framing : Bool)
  /-- A break before the tenth character of a message in collection (R170). -/
  | announcementCutShort (dt : Nat) (p : Fin 4)
  /-- The announce window of the pending pulse runs out (R26). -/
  | announceWindowExpiry (dt : Nat) (p : Fin 4)
  /-- The silence timer of port `p` reaches the mark timeout (R32). -/
  | silenceExpiry (dt : Nat) (p : Fin 4)
  /-- The pending slew drains to 0 (R3). -/
  | slewEnd (dt : Nat)
  /-- Exchange time reaches the next sample second (R57, R58). -/
  | traceSample (dt : Nat)
  /-- The link layer reports lane `l` up (R65). -/
  | linkUp (dt : Nat) (l : Fin 16)
  /-- The link layer reports lane `l` down (R66). -/
  | linkDown (dt : Nat) (l : Fin 16)
  /-- The start delimiter of a frame is received at lane `l` (R67). -/
  | startDelimiter (dt : Nat) (l : Fin 16)
  /-- The frame in reception at lane `l` ends: the bytes received, kind to frame check, and whether the link layer
  reported a line error within it (R67, R68). -/
  | frameEnd (dt : Nat) (l : Fin 16) (bytes : List Byte) (lineError : Bool)
  /-- A request frame of the kind byte `kind`, which is unknown or does not allow the payload's length, has ended (R72). -/
  | unknownKind (dt : Nat) (src : Source) (kind : Byte)
  /-- The last byte of the frame at the head of lane `l`'s transmit queue has been sent (R78). -/
  | frameLeaves (dt : Nat) (l : Fin 16)
  /-- The start delimiter of the outstanding probe leaves lane `l` (R104). -/
  | probeDeparture (dt : Nat) (l : Fin 16)
  | stamp (dt : Nat) (src : Source)
  | stampKeyed (dt : Nat) (src : Source)
  | readTime (dt : Nat) (src : Source)
  | traceReport (dt : Nat) (src : Source)
  | closeInterval (dt : Nat) (src : Source)
  | laneStatus (dt : Nat) (src : Source)
  | calibrate (dt : Nat) (src : Source)
  /-- The probe interval timer of lane `l` expires (R101). -/
  | probeIntervalExpiry (dt : Nat) (l : Fin 16)
  /-- A whole ECHO frame ends at a lane (R69, R105), or at the operations port, where it is refused (R153). -/
  | echo (dt : Nat) (port : FramePort) (tag : Tag) (payload : List Byte)
  /-- The echo timer of lane `l` reaches its due point (R106). -/
  | echoTimeout (dt : Nat) (l : Fin 16)
  | queryAuction (dt : Nat) (src : Source)
  | schedule (dt : Nat) (src : Source)
  | reschedule (dt : Nat) (src : Source)
  | cancel (dt : Nat) (src : Source)
  | retire (dt : Nat) (src : Source)
  | mapKey (dt : Nat) (src : Source)
  | unmapKey (dt : Nat) (src : Source)
  | subscribe (dt : Nat) (src : Source)
  | unsubscribe (dt : Nat) (src : Source)
  | extend (dt : Nat) (src : Source)
  /-- The expiry entry of slot `i` comes due in SCHEDULED (R134, R135). -/
  | openExpiry (dt : Nat) (i : Fin 64)
  /-- The expiry entry of slot `i` comes due in CALL (R136). -/
  | windowExpiry (dt : Nat) (i : Fin 64)
  /-- The expiry entry of slot `i` comes due in WINDOW, EXTENDED or TRACE_HOLD (R142). -/
  | endExpiry (dt : Nat) (i : Fin 64)
  /-- The expiry entry of slot `i` comes due in SETTLING (R146). -/
  | settleExpiry (dt : Nat) (i : Fin 64)
  | setTimescale (dt : Nat) (src : Source)
  | setReference (dt : Nat) (src : Source)
  | armReference (dt : Nat) (src : Source)
  | disableReference (dt : Nat) (src : Source)
  | readReference (dt : Nat) (src : Source)
  | setTrace (dt : Nat) (src : Source)
  | setLane (dt : Nat) (src : Source)
  | setDeviceLimits (dt : Nat) (src : Source)
  | resync (dt : Nat) (src : Source)
  | readAlerts (dt : Nat) (src : Source)
  | setAlertMask (dt : Nat) (src : Source)
  | retainedEnable (dt : Nat) (src : Source)
  | retainedRead (dt : Nat) (src : Source)
  | retainedWrite (dt : Nat) (src : Source)
  | systemReset (dt : Nat) (src : Source)
  /-- A WRITE transaction ends whose bytes are no whole frame with a good check (R152). -/
  | opsWriteDiscarded (dt : Nat) (bytes : List Byte)
  /-- A WRITE transaction with a whole frame ends while the port is REPLY_READY (R152). -/
  | opsWriteBusy (dt : Nat) (bytes : List Byte)
  /-- A transaction begins, or a READ transaction is released (R151, R154). -/
  | opsRead (dt : Nat) (part : OpsTransfer)
  /-- Main power rises (R162). -/
  | powerOn
  /-- The reset pin is asserted (R162). -/
  | resetPinAsserted
  /-- The reset pin is released, or power is stable with the pin released: the new run begins (R162). -/
  | runStart
  /-- A break at RP2 or RP3 while no message is in collection (R170). -/
  | announcementBreak (dt : Nat) (p : Fin 4)
  /-- Main power falls (R163). -/
  | powerLoss
  /-- The backup supply fails (R163). -/
  | backupSupplyLoss
  deriving DecidableEq, Repr

end Sys2Proof
end

