-- ==== Sys2Proof/WellFormed.lean ====
section
/-! DEFINITION. Which commands name an input that the part has. Lanes, ports and slots are in range by their types; what
remains is the announcement input, which only the message ports RP2 and RP3 have (00, physical summary), and the ten
characters of a whole announcement (11.6). -/

namespace Sys2Proof

/-- RP2 and RP3 are pulse-and-announcement ports (02, opening). -/
def isMessagePort (p : Fin 4) : Bool := decide (2 ≤ p.val)

/-- The command names an input the part has, with the shape that input has. -/
def WellFormed : Instr → Bool
  | .announcement _ p chars _ => isMessagePort p && chars.length == 10
  | .announcementCutShort _ p => isMessagePort p
  | .announcementBreak _ p => isMessagePort p
  | .announceWindowExpiry _ p => isMessagePort p
  | .pulseEdge .. | .silenceExpiry .. | .slewEnd .. | .traceSample .. | .linkUp .. | .linkDown .. | .startDelimiter ..
  | .frameEnd .. | .unknownKind .. | .frameLeaves .. | .probeDeparture .. | .stamp .. | .stampKeyed .. | .readTime ..
  | .traceReport .. | .closeInterval .. | .laneStatus .. | .calibrate .. | .probeIntervalExpiry .. | .echo ..
  | .echoTimeout .. | .queryAuction .. | .schedule .. | .reschedule .. | .cancel .. | .retire .. | .mapKey ..
  | .unmapKey .. | .subscribe .. | .unsubscribe .. | .extend .. | .openExpiry .. | .windowExpiry .. | .endExpiry ..
  | .settleExpiry .. | .setTimescale .. | .setReference .. | .armReference .. | .disableReference .. | .readReference ..
  | .setTrace .. | .setLane .. | .setDeviceLimits .. | .resync .. | .readAlerts .. | .setAlertMask .. | .retainedEnable ..
  | .retainedRead .. | .retainedWrite .. | .systemReset .. | .opsWriteDiscarded .. | .opsWriteBusy .. | .opsRead ..
  | .powerOn | .resetPinAsserted | .runStart | .powerLoss | .backupSupplyLoss => true

end Sys2Proof
end

