-- ==== Sys2Proof/Machine/Records.lean ====
section
/-! DEFINITION. The records the part's blocks hold, and the frames and replies it sends, as plain data. Names and ranges
are the spec's; a range is an invariant of the machine and not a type, except where the spec gives a width that wraps. -/

namespace Sys2Proof.Machine

/-! ### Names -/

/-- The device grade and the stamp grade, best first (Conventions, Grades). -/
inductive Grade where
  | a | b | c | untraced
  deriving DecidableEq, Repr

/-- A required grade (Conventions, Grades). -/
inductive Required where
  | a | b | c | any
  deriving DecidableEq, Repr

/-- The timescale states (R5). -/
inductive TimescaleState where
  | unset | acquiring | locked | holdover
  deriving DecidableEq, Repr

/-- The states of a reference (R22). -/
inductive RefState where
  | disabled | qualifying | ready | active | failed
  deriving DecidableEq, Repr

/-- The failure causes (2.1). -/
inductive FailureCause where
  | silent | implausible | codeError | outvoted
  deriving DecidableEq, Repr

/-- The formats of a code (R24). -/
inductive CodeFormat where
  | binary | gray
  deriving DecidableEq, Repr

/-- The calibration standings (R110). -/
inductive Standing where
  | none | partly | calibrated
  deriving DecidableEq, Repr

/-- The phases of a slot that is not FREE (7.1); a FREE slot holds no record (R114). -/
inductive Phase where
  | scheduled | call | window | extended | traceHold | settling | uncrossDue | cancelled
  deriving DecidableEq, Repr

/-- The rulings of a keyed stamp (R92). -/
inductive Ruling where
  | none | preCall | inCall | late | cancelled
  deriving DecidableEq, Repr

/-- The cancel causes (7.1). -/
inductive CancelCause where
  | request | missedOpen
  deriving DecidableEq, Repr

/-- The outcome codes (Outcome codes, and 11.1). -/
inductive Code where
  | done | busy | noRight | badForm | range | noRecord | wrongPhase | wrongState | tooLate | past | limit | conflict
  | callHeld | notInService
  deriving DecidableEq, Repr

/-- The alerts, in the order of the alert table (9.5). -/
inductive Alert where
  | gradeChange | activeChanged | referenceFailed | referenceDispute | holdoverEntered | serviceEntered | laneUp
  | laneDown | calibrationLost | auctionTraceHold | auctionClosedUntraced | auctionMissedOpen | resetDone
  deriving DecidableEq, Repr

/-- The last write result of the operations port (R151). -/
inductive WriteResult where
  | none | taken | busy | discarded
  deriving DecidableEq, Repr

/-- The reset sources (10.1). -/
inductive ResetCause where
  | powerOn | resetPin | resetRequest
  deriving DecidableEq, Repr

/-- Whether the part has main power, and whether it is held at reset or runs (R162, R163). -/
inductive Power where
  /-- Main power is absent. -/
  | off
  /-- Held at reset; the cause is the one the start of the run will record. -/
  | held (cause : ResetCause)
  | running
  deriving DecidableEq, Repr

/-- The request kinds (11.3). -/
inductive Kind where
  | stamp | stampKeyed | calibrate | echo | readTime | traceReport | laneStatus | queryAuction | subscribe | unsubscribe
  | schedule | reschedule | extend | cancel | retire | mapKey | unmapKey
  | setTimescale | setReference | armReference | disableReference | readReference | setTrace | setLane | setDeviceLimits
  | resync | closeInterval | readAlerts | setAlertMask | retainedEnable | retainedRead | retainedWrite | systemReset
  deriving DecidableEq, Repr

/-- The path a request came on (R73, R153). -/
inductive Path where
  | lane (l : Fin 16)
  | ops
  deriving DecidableEq, Repr

/-! ### The timescale unit -/

/-- The six timescale settings (1.8). -/
structure TimescaleSettings where
  lockCount : Nat
  lockLimit : Nat
  stepThreshold : Nat
  rateLimit : Nat
  smax : Nat
  gainShift : Nat
  deriving DecidableEq, Repr

/-- The timescale unit (01, opening table). `frac` and `slew` are in units of 10^-12 ns, in which the advance law of R2
is exact (assumption 5). -/
structure Timescale where
  ns : Nat
  frac : Nat
  raw : Nat
  rate : Int
  slew : Int
  state : TimescaleState
  lockCount : Nat
  anchor : Option (Fin 4 × Nat)
  /-- u_ref and the exchange time of the last applied mark. -/
  lastMark : Option (Nat × Nat)
  rateHeld : Bool
  settings : TimescaleSettings
  deriving DecidableEq, Repr

/-! ### The reference unit -/

/-- The configuration fields of a reference record (2.1). -/
structure RefConfig where
  priority : Nat
  edge : Edge
  delay : Nat
  uFloor : Nat
  maxChange : Nat
  qualify : Nat
  rejectLimit : Nat
  timeoutMs : Nat
  secondOffset : Int
  inversion : BitVec 48
  lsb : Nat
  width : Nat
  format : CodeFormat
  windowMs : Nat
  deriving DecidableEq, Repr

/-- A pulse latched at a message port and awaiting its announcement (R26). -/
structure PendingPulse where
  tMark : Nat
  rawMark : Nat
  deriving DecidableEq, Repr

/-- The five counts of a reference record (2.1). -/
structure RefCounts where
  accepted : Nat
  rejected : Nat
  codeErrors : Nat
  unpairedPulses : Nat
  unpairedAnnouncements : Nat
  deriving DecidableEq, Repr

/-- One record of the reference table, with its port's pending pulse, message collection and silence timer (2.1, R170).
`silence` is the raw count the running silence timer started from. -/
structure RefRecord where
  state : RefState
  cause : Option FailureCause
  config : RefConfig
  lastPhi : Option Int
  lastRaw : Option Nat
  lastTheta : Option (Int × Nat)
  good : Nat
  rejects : Nat
  disputed : Bool
  counts : RefCounts
  pulse : Option PendingPulse
  collecting : Bool
  silence : Option Nat
  deriving DecidableEq, Repr

/-- A mark on its way to the plausibility filter (R25, R27). -/
structure Mark where
  tMark : Nat
  rawMark : Nat
  tRef : Nat
  uRef : Nat
  deriving DecidableEq, Repr

/-! ### The traceability unit -/

/-- Four counters, one for each grade. -/
structure GradeCounts where
  a : Nat
  b : Nat
  c : Nat
  untraced : Nat
  deriving DecidableEq, Repr

/-- The evidence interval (3.6). -/
structure Evidence where
  start : Nat
  worstU : Nat
  seconds : GradeCounts
  stamps : GradeCounts
  switches : Nat
  holdovers : Nat
  deriving DecidableEq, Repr

/-- W, Q and the three thresholds (3.7). -/
structure TraceSettings where
  w : Nat
  q : Nat
  gA : Nat
  gB : Nat
  gC : Nat
  deriving DecidableEq, Repr

/-- The traceability unit (3.1). -/
structure Trace where
  dg : Grade
  settings : TraceSettings
  interval : Evidence
  nextSample : Nat
  deriving DecidableEq, Repr

/-! ### The auction unit -/

/-- The record of a slot that is not FREE (7.1). -/
structure Call where
  phase : Phase
  revision : BitVec 16
  tOpen : Nat
  tSched : Nat
  /-- Window length, in µs. -/
  wr : Nat
  tEnd : Option Nat
  draw : Option (BitVec 32)
  extMin : Nat
  extMax : Nat
  extCap : Nat
  extUsed : Nat
  holdStep : Nat
  holdMax : Nat
  holdsUsed : Nat
  required : Required
  notices : LaneSet
  inCall : Nat
  late : Nat
  stragglers : Nat
  latestIn : Option Nat
  closeGrade : Option Grade
  untracedFlag : Option Bool
  cancelCause : Option CancelCause
  deriving DecidableEq, Repr

/-- The snapshot that QUERY_AUCTION returns (R120): `call` is absent for a FREE slot, and holds T_end, the draw value, the
close grade and the untraced flag only where the rule gives them out. -/
structure Snapshot where
  slot : Fin 64
  call : Option Call
  keys : Nat
  deriving DecidableEq, Repr

/-- The contents of a PHASE_NOTICE (R147). -/
structure PhaseNotice where
  slot : Fin 64
  phase : Phase
  revision : BitVec 16
  tOpen : Nat
  tSched : Nat
  cancelCause : Option CancelCause
  deriving DecidableEq, Repr

/-- The contents of a CLOSE_NOTICE (R148). -/
structure CloseNotice where
  slot : Fin 64
  revision : BitVec 16
  tOpen : Nat
  tEnd : Option Nat
  draw : Option (BitVec 32)
  inCall : Nat
  late : Nat
  stragglers : Nat
  latestIn : Option Nat
  required : Required
  closeGrade : Option Grade
  untracedFlag : Option Bool
  extUsed : Nat
  holdsUsed : Nat
  deriving DecidableEq, Repr

/-! ### The operations port and the retained domain -/

/-- The device limits (9.4). -/
structure DeviceLimits where
  cmax : Nat
  settleGuard : Nat
  acceptLimit : Nat
  crossLimit : Nat
  revertive : Bool
  deriving DecidableEq, Repr

/-- The retained domain (10.2). `cause` is absent in a domain whose contents were lost (R163). -/
structure Retained where
  valid : Bool
  savedRate : Int
  cause : Option ResetCause
  count : Nat
  writeEnable : Bool
  deriving DecidableEq, Repr

/-! ### Lane records -/

/-- A lane's roles (4.1). -/
structure Roles where
  stamp : Bool
  query : Bool
  control : Bool
  deriving DecidableEq, Repr

/-- The settings that SET_LANE writes (R155): c0 and the asymmetry allowance in ns, the probe interval in ms, the echo
timeout in µs, the sample age limit in s. -/
structure LaneSettings where
  roles : Roles
  required : Required
  c0 : Nat
  asymmetry : Nat
  probeInterval : Nat
  echoTimeout : Nat
  ageLimit : Nat
  deriving DecidableEq, Repr

/-- A delay sample: its value in ns and the exchange time it was taken (R108). -/
structure Sample where
  d : Nat
  taken : Nat
  deriving DecidableEq, Repr

/-- The outstanding probe: its tag, and its departure time once it has left the port (6.1). -/
structure Probe where
  tag : Tag
  departed : Option Nat
  deriving DecidableEq, Repr

/-- What calibration derives from a window (R110, R111). -/
structure Derived where
  standing : Standing
  c : Nat
  u : Nat
  overCap : Bool
  deriving DecidableEq, Repr

/-- The five counts of a lane (R82). -/
structure LaneCounts where
  frameErrors : Nat
  overruns : Nat
  noticesLost : Nat
  lateEchoes : Nat
  badEchoes : Nat
  deriving DecidableEq, Repr

/-- An entry of a request queue (4.4). -/
structure Request where
  latch : Nat
  kind : Byte
  tag : Tag
  payload : List Byte
  deriving DecidableEq, Repr

/-! ### Replies and frames -/

/-- The condition indications (Condition indications, and 11.1). -/
structure Indications where
  late : Bool
  held : Bool
  degraded : Bool
  wrap : Bool
  deriving DecidableEq, Repr

/-- What a STAMP or STAMP_KEYED reply carries of the stamp (R88). -/
structure StampReport where
  lane : Fin 16
  sequence : BitVec 32
  time : Nat
  bound : Nat
  grade : Grade
  deriving DecidableEq, Repr

/-- The auction part of a STAMP_KEYED reply whose ruling is not NONE (R95). -/
structure RulingReport where
  slot : Fin 64
  revision : BitVec 16
  ruling : Ruling
  deriving DecidableEq, Repr

/-- What TRACE_REPORT carries (R61). -/
structure TraceReportBody where
  state : TimescaleState
  activePort : Option (Fin 4)
  dg : Grade
  u : Nat
  slewNs : Int
  rate : Int
  ageMs : Option Nat
  rateHeld : Bool
  disputed : List (Fin 4)
  timescale : TimescaleSettings
  settings : TraceSettings
  interval : Evidence
  endTime : Nat
  deriving DecidableEq, Repr

/-- What LANE_STATUS carries (R81). -/
structure LaneReport where
  lane : Fin 16
  up : Bool
  settings : LaneSettings
  derived : Derived
  samples : Nat
  probeTag : Option Tag
  sequence : BitVec 32
  lastStamp : Option Nat
  cursor : Fin 64
  queued : Nat
  replies : Nat
  notices : Nat
  counts : LaneCounts
  deriving DecidableEq, Repr

/-- What READ_REFERENCE carries of the record (R36). -/
structure RefReport where
  port : Fin 4
  state : RefState
  cause : Option FailureCause
  config : RefConfig
  lastPhi : Option Int
  lastRaw : Option Nat
  lastTheta : Option (Int × Nat)
  good : Nat
  rejects : Nat
  disputed : Bool
  counts : RefCounts
  pulsePending : Bool
  deriving DecidableEq, Repr

/-- What a DONE reply to EXTEND carries (R140). -/
structure ExtendReport where
  slot : Fin 64
  revision : BitVec 16
  phase : Phase
  tSched : Nat
  extUsed : Nat
  extCap : Nat
  applied : Nat
  deriving DecidableEq, Repr

/-- The payload of a reply after its three header bytes, as the entry of its request gives it. -/
inductive Body where
  | empty
  | stamp (r : StampReport)
  | stampKeyed (r : StampReport) (auction : Option RulingReport)
  | time (instant u : Nat) (dg : Grade)
  | traceReport (r : TraceReportBody)
  | interval (e : Evidence) (endTime : Nat)
  | laneStatus (r : LaneReport)
  | probeTag (tag : Tag)
  | snapshot (r : Snapshot)
  | slotRevision (slot : Fin 64) (revision : BitVec 16)
  | keyConflict (key : Nat) (slot : Fin 64)
  | revision (r : BitVec 16)
  | unmapped (keys : Nat)
  | heldSlot (slot : Option (Fin 64))
  | extended (r : ExtendReport)
  | timescale (t : TimescaleSettings)
  | refConfig (p : Fin 4) (c : RefConfig)
  | reference (r : RefReport) (limits : DeviceLimits) (t : TimescaleSettings)
  | trace (t : TraceSettings) (dg : Grade)
  | lane (l : Fin 16) (t : LaneSettings)
  | limits (d : DeviceLimits)
  | resync (state : TimescaleState) (active : Option (Fin 4))
  | alerts (set : AlertSet)
  | mask (set : AlertSet)
  | writeEnable (on : Bool)
  | retained (r : Retained)
  | savedRate (valid : Bool) (rate : Int)
  deriving DecidableEq, Repr

/-- A reply (R75): the request's kind as received, its tag, the outcome, the indications and the payload. -/
structure Reply where
  kind : Byte
  tag : Tag
  code : Code
  ind : Indications
  body : Body
  deriving DecidableEq, Repr

/-- A frame of a transmit queue (4.7). -/
inductive TxFrame where
  | reply (r : Reply)
  | phaseNotice (n : PhaseNotice)
  | closeNotice (n : CloseNotice)
  | probe (tag : Tag)
  deriving DecidableEq, Repr

/-- One lane port's record, queues and calibration state (4.1, 6.1). `intervalDue` and `echoDue` are due points on the raw
count; `rxLatch` is the arrival latch of a frame in reception (R67); `linkOut` is the model's own view of the transmit
pair: the bytes of the frame that left last (assumption 20). -/
structure Lane where
  up : Bool
  settings : LaneSettings
  window : List Sample
  derived : Derived
  probe : Option Probe
  tagCounter : Tag
  lastExpired : Option Tag
  intervalDue : Option Nat
  echoDue : Option Nat
  sequence : BitVec 32
  lastStamp : Option Nat
  cursor : Fin 64
  counts : LaneCounts
  queue : List Request
  tx : List TxFrame
  rxLatch : Option Nat
  linkOut : Option (List Byte)
  deriving DecidableEq, Repr

/-- The operations port (09, opening table). `spi` is the first byte of the transaction in progress (R151); `shiftOut` is the
model's own view of the port's output: the bytes shifted out in the transaction in progress or the last one (assumption 20). -/
structure OpsPort where
  reply : Option Reply
  lastWrite : WriteResult
  cursor : Fin 64
  alerts : AlertSet
  mask : AlertSet
  limits : DeviceLimits
  spi : Option Byte
  shiftOut : List Byte
  deriving DecidableEq, Repr

end Sys2Proof.Machine
end

