-- ==== Sys2Proof/Config.lean ====
section
/-! DEFINITION. What the spec leaves free. The constants here have no body: nothing can be proved of a value of theirs, so
whatever is proved of the machine holds whatever they are. -/

namespace Sys2Proof.Config

/-- The value the end-draw source gives at the draw numbered `n` (R133): any value of 32 bits, DESIGN CHOICE of form only
(assumption 7). -/
opaque endDraw : Nat → BitVec 32

/-- The payload bytes, after the three header bytes, of a reply whose byte layout chapter 11 does not give ("their byte
layouts are not covered", 00): any bytes (assumption 8). -/
opaque replyLayout : Machine.Body → List Byte

/-- The byte shifted out `n` places after a held reply's last byte, where a READ is clocked on past it: the spec gives none
(assumption 20). -/
opaque pastReply : Nat → Byte

end Sys2Proof.Config
end

