-- ==== Sys2Proof/Machine/Resets.lean ====
section
/-! DEFINITION. The reset values of each block (10.1, "Reset values, gathered"), and what calibration derives from a window,
which the lanes' reset values need. -/

namespace Sys2Proof.Machine

/-- The timescale settings at their defaults (1.8). -/
def TimescaleSettings.atReset : TimescaleSettings :=
  { lockCount := 4, lockLimit := 1000, stepThreshold := 1000000, rateLimit := 100000000, smax := 50000000, gainShift := 4 }

/-- A rate held to ±limit (R4). -/
def holdRate (limit : Nat) (r : Int) : Int := max (-limit) (min limit r)

/-- The warm start's r: the saved rate, held to the default limit, where the retained domain is valid, else 0 (R6, R166). -/
def warmRate (ret : Retained) : Int :=
  if ret.valid then holdRate TimescaleSettings.atReset.rateLimit ret.savedRate else 0

/-- The warm start sets the rate-held standing where it held the saved rate at the limit (R4, R166). -/
def warmHeld (ret : Retained) : Bool :=
  ret.valid && decide (holdRate TimescaleSettings.atReset.rateLimit ret.savedRate ≠ ret.savedRate)

/-- The timescale unit at the start of a run (R6). -/
def Timescale.atReset (ret : Retained) : Timescale :=
  { ns := 0, frac := 0, raw := 0, rate := warmRate ret, slew := 0, state := .unset, lockCount := 0, anchor := none
    lastMark := none, rateHeld := warmHeld ret, settings := .atReset }

/-- A reference's configuration at its defaults (2.1). -/
def RefConfig.atReset : RefConfig :=
  { priority := 4, edge := .rising, delay := 0, uFloor := 100, maxChange := 10000, qualify := 8, rejectLimit := 3
    timeoutMs := 2500, secondOffset := 0, inversion := 0, lsb := 0, width := 40, format := .binary, windowMs := 900 }

/-- A reference record at reset (R22). -/
def RefRecord.atReset : RefRecord :=
  { state := .disabled, cause := none, config := .atReset, lastPhi := none, lastRaw := none, lastTheta := none, good := 0
    rejects := 0, disputed := false
    counts := { accepted := 0, rejected := 0, codeErrors := 0, unpairedPulses := 0, unpairedAnnouncements := 0 }
    pulse := none, collecting := false, silence := none }

/-- An evidence interval that starts at `t` with every accumulator at 0 (R46, R60). -/
def Evidence.fresh (t : Nat) : Evidence :=
  { start := t, worstU := 0, seconds := ⟨0, 0, 0, 0⟩, stamps := ⟨0, 0, 0, 0⟩, switches := 0, holdovers := 0 }

/-- The traceability unit at reset (R46). -/
def Trace.atReset : Trace :=
  { dg := .untraced, settings := { w := 20000, q := 50, gA := 1000, gB := 100000, gC := 1000000 }
    interval := .fresh 0, nextSample := 1000000000 }

/-- The device limits at their defaults (9.4). -/
def DeviceLimits.atReset : DeviceLimits :=
  { cmax := 20000, settleGuard := 50000, acceptLimit := 50000, crossLimit := 2000, revertive := false }

/-- The standing that a number of samples gives (R110). -/
def standingOf (n : Nat) : Standing :=
  if n = 0 then .none else if n ≤ 3 then .partly else .calibrated

/-- The smallest value of a window; 0 of an empty one, which no rule reads. -/
def minSample (w : List Sample) : Nat := (w.map Sample.d).min?.getD 0

/-- The largest value of a window; 0 of an empty one, which no rule reads. -/
def maxSample (w : List Sample) : Nat := (w.map Sample.d).max?.getD 0

/-- The standing, compensation, uncertainty and over-cap flag of a window, by Cmax, c0 and the asymmetry allowance (R110, R111). -/
def derive (cmax c0 asymmetry : Nat) (w : List Sample) : Derived :=
  if w.length ≤ 3 then
    { standing := standingOf w.length, c := min c0 cmax, u := cmax + asymmetry, overCap := false }
  else if minSample w ≤ cmax then
    { standing := .calibrated, c := minSample w, u := (maxSample w - minSample w) / 2 + asymmetry, overCap := false }
  else
    { standing := .calibrated, c := cmax, u := (maxSample w - minSample w) / 2 + asymmetry + (minSample w - cmax)
      overCap := true }

/-- A lane's settings at their reset values (4.1). -/
def LaneSettings.atReset : LaneSettings :=
  { roles := { stamp := true, query := true, control := false }, required := .c, c0 := 0, asymmetry := 0
    probeInterval := 1000, echoTimeout := 100, ageLimit := 60 }

/-- A lane at reset (R64, R100). -/
def Lane.atReset : Lane :=
  { up := false, settings := .atReset, window := [], derived := derive DeviceLimits.atReset.cmax 0 0 [], probe := none
    tagCounter := 0, lastExpired := none, intervalDue := none, echoDue := none, sequence := 0, lastStamp := none
    cursor := 63
    counts := { frameErrors := 0, overruns := 0, noticesLost := 0, lateEchoes := 0, badEchoes := 0 }
    queue := [], tx := [], rxLatch := none, linkOut := none }

/-- The bit of an alert in an alert set or mask (11.1, in the order of the alert table of 9.5). -/
def Alert.index : Alert → Nat
  | .gradeChange => 0
  | .activeChanged => 1
  | .referenceFailed => 2
  | .referenceDispute => 3
  | .holdoverEntered => 4
  | .serviceEntered => 5
  | .laneUp => 6
  | .laneDown => 7
  | .calibrationLost => 8
  | .auctionTraceHold => 9
  | .auctionClosedUntraced => 10
  | .auctionMissedOpen => 11
  | .resetDone => 12

/-- The set holding one alert alone. -/
def Alert.flag (a : Alert) : AlertSet := 1#13 <<< a.index

/-- The operations port at reset (R151). -/
def OpsPort.atReset : OpsPort :=
  { reply := none, lastWrite := .none, cursor := 63, alerts := Alert.resetDone.flag, mask := 0, limits := .atReset
    spi := none, shiftOut := [] }

/-- The retained domain after main power and the backup supply were both lost (R163). -/
def Retained.lost : Retained :=
  { valid := false, savedRate := 0, cause := none, count := 0, writeEnable := false }

/-- What the retained domain records at the start of a run (R163). -/
def Retained.record (cause : ResetCause) (r : Retained) : Retained :=
  { r with cause := some cause, count := min 65535 (r.count + 1), writeEnable := false }

end Sys2Proof.Machine
end

