-- ==== Sys2Proof/Machine/State.lean ====
section
/-! DEFINITION. The whole state of the part, as plain data, and the state right after reset. -/

namespace Sys2Proof.Machine

/-- The part's state (INVENTORY.md, State). `drawCount` is the model's own counter of the draws made, which the free values of
the end-draw source are applied to (assumption 7); `backup` says that the backup supply holds (R163); `pending` is the queue of
waiting commands, first in first out. -/
structure State where
  ts : Timescale
  refs : Vector RefRecord 4
  trace : Trace
  lanes : Vector Lane 16
  slots : Vector (Option Call) 64
  groupMap : List (Nat × Fin 64)
  expiry : List (Nat × Fin 64)
  drawCount : Nat
  ops : OpsPort
  retained : Retained
  power : Power
  resetPin : Bool
  backup : Bool
  pending : List Instr
  deriving DecidableEq, Repr

/-- The faults of the part. The spec describes no condition in which the part stops: every malformed frame, refused request
and failed reference is answered by a count, an outcome code or a change of state. No constructor, so nothing raises one. -/
inductive Fault where
  deriving DecidableEq, Repr

/-- The refusals of the model. -/
inductive Refusal where
  /-- Raised by an arm of `exec` whose command has no meaning yet; no arm does. Safe: the model stops. -/
  | notModelled (mnemonic : String)
  deriving DecidableEq, Repr

/-- Every block at its reset value, at the start of a run whose retained domain is `ret` (R162, and the table of 10.1). What
is not the blocks' stays: the queue of commands, the draws already made, the pins and power (`base`). -/
def State.blocksAtReset (ret : Retained) (base : State) : State :=
  { base with
    ts := .atReset ret, refs := .replicate 4 .atReset, trace := .atReset, lanes := .replicate 16 .atReset
    slots := .replicate 64 none, groupMap := [], expiry := [], ops := .atReset, retained := ret }

/-- The machine right after reset: a power-on whose retained domain was found cleared (R162, R163; assumption 9). -/
def State.reset : State :=
  { ts := .atReset (Retained.lost.record .powerOn), refs := .replicate 4 .atReset, trace := .atReset
    lanes := .replicate 16 .atReset, slots := .replicate 64 none, groupMap := [], expiry := [], drawCount := 0
    ops := .atReset, retained := Retained.lost.record .powerOn, power := .running, resetPin := false, backup := true
    pending := [] }

end Sys2Proof.Machine
end

