-- ==== Sys2Proof/Machine/Flags.lean ====
section
/-! DEFINITION. Grades, counters, alerts and indications: the flags the part computes, each by the rule that gives it. -/

namespace Sys2Proof.Machine

/-! ### Counters -/

/-- A counter that stops at its maximum (Conventions, Counters). -/
def satInc (cap n : Nat) : Nat := min cap (n + 1)

/-- The maximum of a 16-bit counter. -/
def cap16 : Nat := 65535

/-- The maximum of a 32-bit counter, and the saturated bound (R48). -/
def cap32 : Nat := 4294967295

/-- The counter of one grade increased by 1, 32 bits wide (R58, R59). -/
def GradeCounts.bump (g : Grade) (k : GradeCounts) : GradeCounts :=
  match g with
  | .a => { k with a := satInc cap32 k.a }
  | .b => { k with b := satInc cap32 k.b }
  | .c => { k with c := satInc cap32 k.c }
  | .untraced => { k with untraced := satInc cap32 k.untraced }

/-! ### Grades -/

/-- The order of the grades, best first. -/
def Grade.rank : Grade → Nat
  | .a => 0
  | .b => 1
  | .c => 2
  | .untraced => 3

/-- The worst rank that meets a required grade; every grade meets ANY. -/
def Required.rank : Required → Nat
  | .a => 0
  | .b => 1
  | .c => 2
  | .any => 3

/-- A grade meets a required grade when it is that grade or better (Conventions, Grades). -/
def Grade.meets (g : Grade) (r : Required) : Bool := decide (g.rank ≤ r.rank)

/-- The worse of two grades. -/
def Grade.worse (g h : Grade) : Grade := if g.rank ≤ h.rank then h else g

/-- The best grade whose threshold a bound is at most, or UNTRACED (R51, R55). -/
def plainGrade (t : TraceSettings) (u : Nat) : Grade :=
  if u ≤ t.gA then .a else if u ≤ t.gB then .b else if u ≤ t.gC then .c else .untraced

/-- The promotion limit of a threshold (R52). -/
def promotionLimit (g : Nat) : Nat := g - g / 8

/-- The bound exceeds the threshold of the grade held (R51). -/
def exceedsHeld (t : TraceSettings) (dg : Grade) (u : Nat) : Bool :=
  match dg with
  | .a => decide (t.gA < u)
  | .b => decide (t.gB < u)
  | .c => decide (t.gC < u)
  | .untraced => false

/-- The best grade better than `dg` that allows promotion, or `dg` (R52). -/
def promoted (t : TraceSettings) (dg : Grade) (u : Nat) : Grade :=
  if 0 < dg.rank ∧ u ≤ promotionLimit t.gA then .a
  else if 1 < dg.rank ∧ u ≤ promotionLimit t.gB then .b
  else if 2 < dg.rank ∧ u ≤ promotionLimit t.gC then .c
  else dg

/-- The device grade after an evaluation with bound `u` (R51, R52). -/
def evalGrade (t : TraceSettings) (inService : Bool) (dg : Grade) (u : Nat) : Grade :=
  if inService then (if exceedsHeld t dg u then plainGrade t u else promoted t dg u) else .untraced

/-- The stamp grade: the worse of the plain grade of B and DG (R55). -/
def stampGrade (t : TraceSettings) (dg : Grade) (b : Nat) : Grade := (plainGrade t b).worse dg

/-- LOCKED and HOLDOVER are in service (Conventions, In service). -/
def TimescaleState.inService : TimescaleState → Bool
  | .locked => true
  | .holdover => true
  | .unset => false
  | .acquiring => false

/-! ### Phases -/

/-- A call is live from CALL to SETTLING (R19, R156). -/
def Phase.live : Phase → Bool
  | .call | .window | .extended | .traceHold | .settling => true
  | .scheduled | .uncrossDue | .cancelled => false

/-- The phases whose slots have an expiry entry (R131). -/
def Phase.due : Phase → Bool
  | .scheduled | .call | .window | .extended | .traceHold | .settling => true
  | .uncrossDue | .cancelled => false

/-- The phases in which a drawn end stands that may still be taken (R142). -/
def Phase.endPending : Phase → Bool
  | .window | .extended | .traceHold => true
  | .scheduled | .call | .settling | .uncrossDue | .cancelled => false

/-- The phases that hold a key against a move to another slot (R116, R121, R127). -/
def Phase.holdsKeys : Phase → Bool
  | .call | .window | .extended | .traceHold | .settling | .uncrossDue => true
  | .scheduled | .cancelled => false

/-! ### Indications and alerts -/

/-- All four indications clear. -/
def Indications.clear : Indications := { late := false, held := false, degraded := false, wrap := false }

/-- The indications byte: bit 0 LATE, bit 1 HELD, bit 2 DEGRADED, bit 3 WRAP (11.1). -/
def Indications.byte (i : Indications) : Byte :=
  BitVec.ofNat 8 (i.late.toNat + 2 * i.held.toNat + 4 * i.degraded.toNat + 8 * i.wrap.toNat)

/-- The set with one alert added (R158). -/
def addAlert (a : Alert) (set : AlertSet) : AlertSet := set ||| a.flag

/-- The set holds an alert. -/
def hasAlert (a : Alert) (set : AlertSet) : Bool := set.getLsbD a.index

end Sys2Proof.Machine
end

