-- ==== Sys2Proof/Machine/Operands.lean ====
section
/-! DEFINITION. The bytes of frames: the field encodings of 11.1, read and written; request kinds and the payload lengths they
allow (11.3); the frame check (R169); the addressing forms (7.3); the layouts of what the part sends (11.2 to 11.7). -/

namespace Sys2Proof.Machine

/-! ### Multi-byte fields, most significant byte first -/

/-- The number a run of bytes holds. -/
def be (bs : List Byte) : Nat := bs.foldl (fun acc b => acc * 256 + b.toNat) 0

/-- The unsigned field of `n` bytes at offset `off`. -/
def field (off n : Nat) (bs : List Byte) : Nat := be ((bs.drop off).take n)

/-- The two's complement reading of a field of `n` bytes. -/
def signed (n v : Nat) : Int := if v < 2 ^ (8 * n - 1) then v else (v : Int) - 2 ^ (8 * n)

/-- A number as `n` bytes. -/
def toBytes : Nat → Nat → List Byte
  | 0, _ => []
  | n + 1, v => toBytes n (v / 256) ++ [BitVec.ofNat 8 v]

/-- A value lies in an inclusive range (Conventions, Ranges). -/
def inRange (lo hi v : Nat) : Bool := decide (lo ≤ v) && decide (v ≤ hi)

/-! ### The frame check (R169) -/

/-- One bit of the check: generator x^16 + x^12 + x^5 + 1. -/
def crcBit (r : BitVec 16) : BitVec 16 := if r.msb then (r <<< 1) ^^^ 0x1021#16 else r <<< 1

/-- One byte of the check, most significant bit first. -/
def crcByte (r : BitVec 16) (b : Byte) : BitVec 16 :=
  crcBit (crcBit (crcBit (crcBit (crcBit (crcBit (crcBit (crcBit (r ^^^ (b.setWidth 16 <<< 8)))))))))

/-- The check over a run of bytes; the register starts at 65,535. -/
def frameCheck (bs : List Byte) : BitVec 16 := bs.foldl crcByte 0xFFFF#16

/-- The parts of a frame that has been found whole (11.2). -/
structure Frame where
  kind : Byte
  tag : Tag
  payload : List Byte
  deriving DecidableEq, Repr

/-- The bytes of a frame, kind to frame check (11.2). -/
def frameBytes (kind : Byte) (tag : Tag) (payload : List Byte) : List Byte :=
  let body := kind :: toBytes 2 tag.toNat ++ BitVec.ofNat 8 payload.length :: payload
  body ++ toBytes 2 (frameCheck body).toNat

/-- The frame that received bytes hold, kind to frame check: none where the frame is not whole, holds more or fewer
payload bytes than its length field says, says more than 248, or fails its check (R68, R152). -/
def parseFrame (bs : List Byte) : Option Frame :=
  let body := bs.take (bs.length - 2)
  if bs.length < 6 ∨ 248 < field 3 1 bs ∨ bs.length ≠ field 3 1 bs + 6 ∨ be (bs.drop (bs.length - 2)) ≠ (frameCheck body).toNat
  then none
  else some { kind := BitVec.ofNat 8 (field 0 1 bs), tag := BitVec.ofNat 16 (field 1 2 bs), payload := body.drop 4 }

/-! ### Request kinds (11.3) -/

/-- The code of a request kind. -/
def Kind.code : Kind → Nat
  | .stamp => 1
  | .stampKeyed => 2
  | .calibrate => 3
  | .echo => 4
  | .readTime => 5
  | .traceReport => 6
  | .laneStatus => 7
  | .queryAuction => 8
  | .subscribe => 9
  | .unsubscribe => 10
  | .schedule => 11
  | .reschedule => 12
  | .extend => 13
  | .cancel => 14
  | .retire => 15
  | .mapKey => 16
  | .unmapKey => 17
  | .setTimescale => 32
  | .setReference => 33
  | .armReference => 34
  | .disableReference => 35
  | .readReference => 36
  | .setTrace => 37
  | .setLane => 38
  | .setDeviceLimits => 39
  | .resync => 40
  | .closeInterval => 41
  | .readAlerts => 42
  | .setAlertMask => 43
  | .retainedEnable => 44
  | .retainedRead => 45
  | .retainedWrite => 46
  | .systemReset => 47

/-- Every request kind of 11.3. -/
def Kind.all : List Kind :=
  [.stamp, .stampKeyed, .calibrate, .echo, .readTime, .traceReport, .laneStatus, .queryAuction, .subscribe, .unsubscribe,
   .schedule, .reschedule, .extend, .cancel, .retire, .mapKey, .unmapKey, .setTimescale, .setReference, .armReference,
   .disableReference, .readReference, .setTrace, .setLane, .setDeviceLimits, .resync, .closeInterval, .readAlerts,
   .setAlertMask, .retainedEnable, .retainedRead, .retainedWrite, .systemReset]

/-- The kind byte of a request kind. -/
def Kind.byte (k : Kind) : Byte := BitVec.ofNat 8 k.code

/-- The request kind a kind byte names. The kinds the part itself sends, 128 to 131, name none (R72). -/
def Kind.ofByte (b : Byte) : Option Kind := Kind.all.find? fun k => k.code == b.toNat

/-- The kinds that 11.3 marks — at the operations port. -/
def Kind.laneOnly : Kind → Bool
  | .stamp | .stampKeyed | .calibrate | .echo => true
  | _ => false

/-- The kinds that 11.3 marks — on a lane: the operations-only kinds of R73. -/
def Kind.opsOnly (k : Kind) : Bool := decide (32 ≤ k.code)

/-- The payload lengths a kind allows on a path (11.3). A kind marked — on a path is held to the lengths of the other
path there (11.3, last paragraph). -/
def Kind.allows (k : Kind) (p : Path) (n : Nat) : Bool :=
  match k, p with
  | .laneStatus, .lane _ => n == 0
  | .laneStatus, .ops => n == 2
  | .subscribe, .lane _ | .unsubscribe, .lane _ => n == 3
  | .subscribe, .ops | .unsubscribe, .ops => n == 4
  | .schedule, _ => decide (41 ≤ n) && decide (n ≤ 73) && (n - 41) % 2 == 0
  | .stamp, _ | .calibrate, _ | .readTime, _ | .traceReport, _ | .resync, _ | .closeInterval, _ | .readAlerts, _
  | .retainedRead, _ | .systemReset, _ => n == 0
  | .stampKeyed, _ | .echo, _ | .unmapKey, _ | .setAlertMask, _ => n == 2
  | .queryAuction, _ | .cancel, _ | .retire, _ => n == 3
  | .reschedule, _ => n == 26
  | .extend, _ => n == 7
  | .mapKey, _ | .retainedWrite, _ => n == 5
  | .setTimescale, _ => n == 18
  | .setReference, _ => n == 34
  | .armReference, _ | .disableReference, _ | .readReference, _ | .retainedEnable, _ => n == 1
  | .setTrace, _ => n == 20
  | .setLane, _ | .setDeviceLimits, _ => n == 17

/-- The form check of a taken request: a known kind and a length it allows (R72, R153, R169). ECHO is no request on a lane,
where it never reaches this check. -/
def formOk (p : Path) (kind : Byte) (len : Nat) : Bool :=
  match Kind.ofByte kind with
  | some k => k.allows p len
  | none => false

/-- The role check of R73 on a lane. -/
def Roles.allow (r : Roles) : Kind → Bool
  | .stamp | .stampKeyed | .calibrate => r.stamp
  | .readTime | .traceReport | .queryAuction | .subscribe | .unsubscribe | .laneStatus => r.query
  | .schedule | .reschedule | .cancel | .retire | .mapKey | .unmapKey | .extend => r.control
  | _ => false

/-! ### Decoding the fields of a request (R168) -/

/-- The largest exchange time, and the largest raw count: 2^63 − 1 ns (R1). -/
def maxNs : Nat := 9223372036854775807

/-- Nanoseconds in a second. -/
def second : Nat := 1000000000

/-- An exchange time of nine bytes at offset `off`. `none`: the encoding names no time. `some none`: its absent flag is set,
and it carries no value, whatever its other bits hold (11.1, R168). -/
def decodeTime (off : Nat) (bs : List Byte) : Option (Option Nat) :=
  let secs := field off 5 bs
  let word := field (off + 5) 4 bs
  if 2 ^ 31 ≤ word then some none
  else if 999999999 < word ∨ maxNs < secs * second + word then none
  else some (some (secs * second + word))

/-- A time that the request requires: RANGE where it is absent or names no time (R168). -/
def requiredTime (off : Nat) (bs : List Byte) : Option Nat := (decodeTime off bs).join

/-- A grade code in a required-grade field. `none`: the code names no grade (above 4). `some none`: UNTRACED, which is no
required grade (4.1, 7.1) and is refused at the place of the range check. -/
def decodeRequired (v : Nat) : Option (Option Required) :=
  match v with
  | 0 => some (some .a)
  | 1 => some (some .b)
  | 2 => some (some .c)
  | 3 => some none
  | 4 => some (some .any)
  | _ => none

/-- A roles byte; bits above bit 2 name no role (R168). -/
def decodeRoles (v : Nat) : Option Roles :=
  if 7 < v then none else some { stamp := v.testBit 0, query := v.testBit 1, control := v.testBit 2 }

/-- A flag or a choice: clear 0, set 1 (11.1, 11.3). -/
def decodeFlag (v : Nat) : Option Bool :=
  match v with
  | 0 => some false
  | 1 => some true
  | _ => none

/-- The addressing forms (7.3). -/
inductive Form where
  | slot (n : Nat)
  | key (k : Nat)
  | next
  | prev
  deriving DecidableEq, Repr

/-- An addressing form of three bytes at offset `off` (11.1); a form code with no meaning names none. The two bytes that
follow NEXT and PREV are not read (assumption 15). -/
def decodeForm (off : Nat) (bs : List Byte) : Option Form :=
  match field off 1 bs with
  | 0 => some (.slot (field (off + 1) 2 bs))
  | 1 => some (.key (field (off + 1) 2 bs))
  | 2 => some .next
  | 3 => some .prev
  | _ => none

/-! ### Encoding what the part sends -/

/-- The code of an outcome (11.1). -/
def Code.byte : Code → Byte
  | .done => 0
  | .busy => 1
  | .noRight => 2
  | .badForm => 3
  | .range => 4
  | .noRecord => 5
  | .wrongPhase => 6
  | .wrongState => 7
  | .tooLate => 8
  | .past => 9
  | .limit => 10
  | .conflict => 11
  | .callHeld => 12
  | .notInService => 13

/-- The code of a grade (11.1). -/
def Grade.byte (g : Grade) : Byte := BitVec.ofNat 8 g.rank

/-- The code of a required grade (11.1). -/
def Required.byte : Required → Byte
  | .a => 0
  | .b => 1
  | .c => 2
  | .any => 4

/-- The code of a phase; FREE is 0 (11.1). -/
def Phase.byte : Phase → Byte
  | .scheduled => 1
  | .call => 2
  | .window => 3
  | .extended => 4
  | .traceHold => 5
  | .settling => 6
  | .uncrossDue => 7
  | .cancelled => 8

/-- The code of a ruling (11.1). -/
def Ruling.byte : Ruling → Byte
  | .none => 0
  | .preCall => 1
  | .inCall => 2
  | .late => 3
  | .cancelled => 4

/-- The code of a cancel cause (11.1). -/
def causeByte : Option CancelCause → Byte
  | none => 0
  | some .request => 1
  | some .missedOpen => 2

/-- An exchange time, or an absent one, in nine bytes (11.1). -/
def timeBytes : Option Nat → List Byte
  | some t => toBytes 5 (t / second) ++ toBytes 4 (t % second)
  | none => toBytes 5 0 ++ toBytes 4 (2 ^ 31)

/-- A grade that may be absent, 255 (11.1). -/
def gradeByte (g : Option Grade) : Byte := g.elim 255 Grade.byte

/-- A flag that may be absent, 255 (11.1). -/
def flagByte (f : Option Bool) : Byte := f.elim 255 fun b => BitVec.ofNat 8 b.toNat

/-- The 19 bytes of a STAMP reply after its header (11.4). -/
def StampReport.bytes (r : StampReport) : List Byte :=
  toBytes 1 r.lane ++ toBytes 4 r.sequence.toNat ++ timeBytes (some r.time) ++ toBytes 4 r.bound ++ [r.grade.byte]

/-- The four bytes that follow them in a STAMP_KEYED reply; for ruling NONE the slot is 255 and the revision 0 (11.4). -/
def rulingBytes : Option RulingReport → List Byte
  | some r => toBytes 1 r.slot ++ toBytes 2 r.revision.toNat ++ [r.ruling.byte]
  | none => [255, 0, 0, Ruling.none.byte]

/-- The 85 bytes of a snapshot (11.5). In FREE the numeric fields are 0 and the others absent. -/
def Snapshot.bytes (s : Snapshot) : List Byte :=
  match s.call with
  | none =>
    toBytes 1 s.slot ++ toBytes 3 0 ++ timeBytes none ++ timeBytes none ++ toBytes 20 0 ++ [255] ++ toBytes 2 0
      ++ toBytes 2 s.keys ++ toBytes 12 0 ++ timeBytes none ++ timeBytes none ++ toBytes 5 0 ++ [255, 255, 0]
  | some c =>
    toBytes 1 s.slot ++ [c.phase.byte] ++ toBytes 2 c.revision.toNat ++ timeBytes (some c.tOpen) ++ timeBytes (some c.tSched)
      ++ toBytes 4 c.wr ++ toBytes 4 c.extMin ++ toBytes 4 c.extMax ++ toBytes 1 c.extCap ++ toBytes 1 c.extUsed
      ++ toBytes 4 c.holdStep ++ toBytes 1 c.holdMax ++ toBytes 1 c.holdsUsed ++ [c.required.byte]
      ++ toBytes 2 c.notices.toNat ++ toBytes 2 s.keys ++ toBytes 4 c.inCall ++ toBytes 4 c.late ++ toBytes 4 c.stragglers
      ++ timeBytes c.latestIn ++ timeBytes c.tEnd ++ toBytes 1 c.draw.isSome.toNat ++ toBytes 4 (c.draw.elim 0 BitVec.toNat)
      ++ [gradeByte c.closeGrade, flagByte c.untracedFlag, causeByte c.cancelCause]

/-- The 23 bytes of a PHASE_NOTICE (11.5). -/
def PhaseNotice.bytes (n : PhaseNotice) : List Byte :=
  toBytes 1 n.slot ++ [n.phase.byte] ++ toBytes 2 n.revision.toNat ++ timeBytes (some n.tOpen) ++ timeBytes (some n.tSched)
    ++ [causeByte n.cancelCause]

/-- The 51 bytes of a CLOSE_NOTICE (11.5). -/
def CloseNotice.bytes (n : CloseNotice) : List Byte :=
  toBytes 1 n.slot ++ toBytes 2 n.revision.toNat ++ timeBytes (some n.tOpen) ++ timeBytes n.tEnd
    ++ toBytes 4 (n.draw.elim 0 BitVec.toNat) ++ toBytes 4 n.inCall ++ toBytes 4 n.late ++ toBytes 4 n.stragglers
    ++ timeBytes n.latestIn ++ [n.required.byte, gradeByte n.closeGrade, flagByte n.untracedFlag]
    ++ toBytes 1 n.extUsed ++ toBytes 1 n.holdsUsed

/-- The payload of a reply after its header. The layouts chapter 11 does not give are free (assumption 8). -/
def Body.bytes : Body → List Byte
  | .empty => []
  | .stamp r => r.bytes
  | .stampKeyed r a => r.bytes ++ rulingBytes a
  | .snapshot r => r.bytes
  | b => Config.replyLayout b

/-- The kind bytes of the frames the part sends (11.2). -/
def replyKind : Byte := 128

/-- The bytes of a reply frame: its payload begins with the request's kind, the outcome and the indications (11.2). -/
def Reply.bytes (r : Reply) : List Byte :=
  frameBytes replyKind r.tag (r.kind :: r.code.byte :: r.ind.byte :: r.body.bytes)

/-- The bytes of a frame of a transmit queue (11.2, 11.4, 11.5). -/
def TxFrame.bytes : TxFrame → List Byte
  | .reply r => r.bytes
  | .phaseNotice n => frameBytes 129 0 n.bytes
  | .closeNotice n => frameBytes 130 0 n.bytes
  | .probe tag => frameBytes 131 tag []

/-- The code of a last write result in the status byte (11.7). -/
def WriteResult.code : WriteResult → Nat
  | .none => 0
  | .taken => 1
  | .busy => 2
  | .discarded => 3

end Sys2Proof.Machine
end

