-- ==== Sys2Proof/Machine/Ops.lean ====
section
/-! DEFINITION. The named operations over the state that the meanings share: the advance of time (R1 to R3), alerts, lanes and
their queues, the group map and the expiry list, the taking of a request (R71, R153), and a stage of a call (R115). -/

namespace Sys2Proof.Machine

/-- What a command's meaning answers. -/
abbrev Out := Host.Outcome State Fault Refusal

/-! ### Time -/

/-- The units of `frac` and `slew` in a nanosecond: a rate in ppt gains so many units in one nominal nanosecond (R2). -/
def unit : Nat := 1000000000000

/-- Exchange time in units. -/
def Timescale.total (t : Timescale) : Int := t.ns * unit + t.frac

/-- The part of S that the slew works off over `d` nominal ns: Smax for each, and never more than is left (R2, R3). -/
def Timescale.drain (d : Nat) (t : Timescale) : Int :=
  if 0 < t.slew then min t.slew (t.settings.smax * d) else max t.slew (-(t.settings.smax * d : Int))

/-- The advance over `dt` nominal nanoseconds of raw count (R1 to R3). Both counts hold at their largest value; while the raw
count holds nothing advances, and while exchange time alone holds S still drains (assumption 6). -/
def Timescale.elapse (dt : Nat) (t : Timescale) : Timescale :=
  let d := min dt (maxNs - t.raw)
  let v := (min (t.total + d * (unit + t.rate) + t.drain d) (maxNs * unit)).toNat
  { t with ns := v / unit, frac := v % unit, raw := t.raw + d, slew := t.slew - t.drain d }

/-- The pending slew in whole ns, its fraction discarded (assumption 5). -/
def Timescale.slewNs (t : Timescale) : Int := t.slew.tdiv unit

/-- The state after `dt` nominal nanoseconds of raw count. -/
def State.elapse (dt : Nat) (s : State) : State := { s with ts := s.ts.elapse dt }

/-- Exchange time in whole ns: what every latch, report and comparison uses (R1). -/
def State.now (s : State) : Nat := s.ts.ns

/-- The timescale is in service. -/
def State.inService (s : State) : Bool := s.ts.state.inService

/-- An event that comes `dt` nominal ns after the step before it. While the part is held at reset or has no power, events
have no effect and no time runs (R162). -/
def State.atEvent (dt : Nat) (act : State → State) (s : State) : Out :=
  match s.power with
  | .running => .next (act (s.elapse dt))
  | .held _ => .next s
  | .off => .next s

/-! ### Alerts and the status byte -/

/-- Raising an alert (R158). -/
def State.raise (a : Alert) (s : State) : State := { s with ops := { s.ops with alerts := addAlert a s.ops.alerts } }

/-- The alert line: asserted while the set and the mask have a flag in common, released while the part is held (R159, R162). -/
def State.alertLine (s : State) : Bool :=
  match s.power with
  | .running => s.ops.alerts &&& s.ops.mask != 0
  | .held _ => false
  | .off => false

/-- The status byte that every transaction shifts out (11.7). -/
def State.statusByte (s : State) : Byte :=
  BitVec.ofNat 8 (s.ops.reply.isSome.toNat + 2 * s.ops.lastWrite.code + 8 * s.alertLine.toNat)

/-! ### Lanes and their queues -/

/-- The state with lane `l`'s record changed. -/
def State.onLane (l : Fin 16) (f : Lane → Lane) (s : State) : State := { s with lanes := s.lanes.set l (f s.lanes[l]) }

/-- The frame holds an entry of the reply share (4.7). -/
def TxFrame.isReply : TxFrame → Bool
  | .reply _ => true
  | .phaseNotice _ => false
  | .closeNotice _ => false
  | .probe _ => false

/-- The replies in a lane's transmit queue. -/
def Lane.replies (n : Lane) : Nat := n.tx.countP TxFrame.isReply

/-- The notices and probes in a lane's transmit queue. -/
def Lane.notices (n : Lane) : Nat := n.tx.countP fun f => !f.isReply

/-- The entries of each share of a transmit queue (4.7). -/
def shareSize : Nat := 8

/-- The requests a request queue holds at most (4.4). -/
def queueSize : Nat := 8

/-- The frame joins the tail of the transmit queue. -/
def Lane.join (f : TxFrame) (n : Lane) : Lane := { n with tx := n.tx ++ [f] }

/-- A notice is placed at a lane: it joins where the lane is UP and its notice share has a free entry, is lost and counted
where the share is full, and is not placed where the lane is DOWN (R79). -/
def Lane.placeNotice (f : TxFrame) (n : Lane) : Lane :=
  if n.up then
    if n.notices < shareSize then n.join f
    else { n with counts := { n.counts with noticesLost := satInc cap16 n.counts.noticesLost } }
  else n

/-- A notice is handed to every lane of a set, and placed at each separately (R79). -/
def State.handNotice (set : LaneSet) (f : TxFrame) (s : State) : State :=
  { s with lanes := .ofFn fun i : Fin 16 => if set.getLsbD i then s.lanes[i].placeNotice f else s.lanes[i] }

/-- The lanes that a change of every lane gives. -/
def State.onLanes (f : Lane → Lane) (s : State) : State := { s with lanes := s.lanes.map f }

/-! ### The taking of a request (R71, R72, R73, R152, R153) -/

/-- What an answering block returns for the reply: the outcome, the indications and the payload (R75). -/
structure Answer where
  code : Code
  ind : Indications
  body : Body
  deriving DecidableEq, Repr

/-- A reply with all four indications clear and no payload. -/
def Answer.plain (c : Code) : Answer := { code := c, ind := .clear, body := .empty }

/-- A DONE reply with all four indications clear. -/
def Answer.done (b : Body) : Answer := { code := .done, ind := .clear, body := b }

/-- An answering block: from the path, the instant the request stands for (its arrival latch on a lane, the exchange time
of its taking at the port), its payload and the state at the taking, the state it leaves and its answer. -/
abbrev Block := Path → Nat → List Byte → State → State × Answer

/-- A block that answers without an effect. -/
def refuse (c : Code) (s : State) : State × Answer := (s, .plain c)

/-- The frame check errors count increased by 1, and the frame's latch dropped with it (R68). -/
def Lane.frameError (n : Lane) : Lane :=
  { n with rxLatch := none, counts := { n.counts with frameErrors := satInc cap16 n.counts.frameErrors } }

/-- The end at lane `l` of a frame with a good check and this payload: one longer than 248 bytes is discarded and counted (R68), and
a whole one goes with its arrival latch to `act`. Without a frame in reception no frame ends (assumption 2). -/
def laneFrame (l : Fin 16) (payload : List Byte) (act : Nat → State → State) (s : State) : State :=
  match s.lanes[l].up, s.lanes[l].rxLatch with
  | true, some latch => if 248 < payload.length then s.onLane l Lane.frameError else act latch s
  | _, _ => s

/-- A whole request frame joins the request queue, or is an overrun where the queue is full; its arrival latch goes with it (R70). -/
def Lane.enqueue (q : Request) (n : Lane) : Lane :=
  if n.queue.length < queueSize then { n with rxLatch := none, queue := n.queue ++ [q] }
  else { n with rxLatch := none, counts := { n.counts with overruns := satInc cap16 n.counts.overruns } }

/-- Form, then role, then the answering block, for a request of kind `k` taken from lane `l` (R72, R73). -/
def laneAnswer (k : Kind) (blk : Block) (l : Fin 16) (q : Request) (s : State) : State × Answer :=
  if !formOk (.lane l) q.kind q.payload.length then refuse .badForm s
  else if !s.lanes[l].settings.roles.allow k then refuse .noRight s
  else blk (.lane l) q.latch q.payload s

/-- The taking of the head of lane `l`'s request queue, where the reply share has a free entry (R71): it leaves the queue, is
answered by `answer`, and its reply joins the transmit queue at the end of the event, after the notices the event placed (R76). -/
def takeHead (l : Fin 16) (answer : Request → State → State × Answer) (s : State) : State :=
  match s.lanes[l].queue with
  | [] => s
  | q :: rest =>
    if s.lanes[l].up ∧ s.lanes[l].replies < shareSize then
      let r := answer q (s.onLane l fun n => { n with queue := rest })
      r.1.onLane l (Lane.join (.reply { kind := q.kind, tag := q.tag, code := r.2.code, ind := r.2.ind, body := r.2.body }))
    else s

/-- The end of a request frame at lane `l` (R68, R70, R71): a whole one joins the request queue with its arrival latch, and one that
joins an empty queue while the reply share has a free entry is taken at this event, and answered by `answer`. A queue that is not
empty waits for a reply entry, so no other test is due. -/
def requestEnds (l : Fin 16) (kind : Byte) (tag : Tag) (payload : List Byte) (answer : Request → State → State × Answer)
    (s : State) : State :=
  laneFrame l payload (fun latch s =>
    let s' := s.onLane l (Lane.enqueue { latch, kind, tag, payload })
    if s.lanes[l].queue.isEmpty then takeHead l answer s' else s') s

/-- The code of a WRITE transaction (11.7). -/
def writeByte : Byte := 165

/-- The code of a READ transaction (11.7). -/
def readByte : Byte := 90

/-- The transaction in progress ends with last write result `w`. -/
def OpsPort.endWrite (w : WriteResult) (o : OpsPort) : OpsPort := { o with lastWrite := w, spi := none }

/-- A WRITE transaction that carried a frame is judged at its release (R152): a payload longer than 248 bytes makes the frame
discarded, a frame that arrives while a reply is held is refused BUSY, and else the frame is taken, and `act` follows. With no
WRITE in progress none is released: a transaction in progress at a reset is abandoned (R151; assumption 2). -/
def opsWrite (payload : List Byte) (act : State → State) (s : State) : State :=
  if s.ops.spi = some writeByte then
    if 248 < payload.length then { s with ops := s.ops.endWrite .discarded }
    else if s.ops.reply.isSome then { s with ops := s.ops.endWrite .busy }
    else act { s with ops := s.ops.endWrite .taken }
  else s

/-- Form, then the kinds that may not be issued at the port, then the answering block (R153). -/
def opsAnswer (k : Kind) (payload : List Byte) (blk : Block) (s : State) : State × Answer :=
  if !formOk .ops k.byte payload.length then refuse .badForm s
  else if k.laneOnly then refuse .noRight s
  else blk .ops s.now payload s

/-- The reply joins the reply buffer and the port becomes REPLY_READY (R153). -/
def State.holdReply (kind : Byte) (tag : Tag) (r : State × Answer) : State :=
  { r.1 with ops := { r.1.ops with reply := some { kind, tag, code := r.2.code, ind := r.2.ind, body := r.2.body } } }

/-- The taking of a request of kind `k` at the operations port (R152, R153). -/
def takeFromOps (k : Kind) (tag : Tag) (payload : List Byte) (blk : Block) (s : State) : State :=
  opsWrite payload (fun s' => State.holdReply k.byte tag (opsAnswer k payload blk s')) s

/-- A request of kind `k` on its path: the end of its whole frame, and its taking. -/
def takeRequest (k : Kind) (src : Source) (blk : Block) (s : State) : State :=
  match src with
  | .lane l tag payload => requestEnds l k.byte tag payload (laneAnswer k blk l) s
  | .ops tag payload => takeFromOps k tag payload blk s

/-! ### The group map and the expiry list -/

/-- The slot a key holds (R116). -/
def mapLookup (k : Nat) (m : List (Nat × Fin 64)) : Option (Fin 64) := (m.find? fun e => e.1 == k).map Prod.snd

/-- A key is mapped to a slot, wherever it was mapped before; keys stay in rising order. -/
def mapInsert (k : Nat) (i : Fin 64) : List (Nat × Fin 64) → List (Nat × Fin 64)
  | [] => [(k, i)]
  | e :: m => if k < e.1 then (k, i) :: e :: m else if k = e.1 then (k, i) :: m else e :: mapInsert k i m

/-- A key is unmapped. -/
def mapErase (k : Nat) (m : List (Nat × Fin 64)) : List (Nat × Fin 64) := m.filter fun e => e.1 != k

/-- Every key that holds a slot is unmapped (R126). -/
def mapEraseSlot (i : Fin 64) (m : List (Nat × Fin 64)) : List (Nat × Fin 64) := m.filter fun e => e.2 != i

/-- The number of keys that hold a slot. -/
def keysHolding (i : Fin 64) (m : List (Nat × Fin 64)) : Nat := m.countP fun e => e.2 == i

/-- The group map's canonical form: keys strictly rising, and every key below 4,096. -/
def mapWf (m : List (Nat × Fin 64)) : Bool :=
  decide ((m.map Prod.fst).Pairwise (· < ·)) && m.all fun e => e.1 < 4096

/-- An entry joins the expiry list, in order of due time and, among equal due times, of slot (R131; assumption 16). -/
def expiryInsert (d : Nat) (i : Fin 64) : List (Nat × Fin 64) → List (Nat × Fin 64)
  | [] => [(d, i)]
  | e :: l => if d < e.1 ∨ d = e.1 ∧ i ≤ e.2 then (d, i) :: e :: l else e :: expiryInsert d i l

/-- A slot's entry is removed from the expiry list. -/
def expiryRemove (i : Fin 64) (l : List (Nat × Fin 64)) : List (Nat × Fin 64) := l.filter fun e => e.2 != i

/-- A slot's entry is replaced by one with the due time given, or removed where none is given (R131). -/
def expiryRefile (i : Fin 64) (due : Option Nat) (l : List (Nat × Fin 64)) : List (Nat × Fin 64) :=
  match due with
  | some d => expiryInsert d i (expiryRemove i l)
  | none => expiryRemove i l

/-- The due time of a slot's entry. -/
def expiryOf (i : Fin 64) (l : List (Nat × Fin 64)) : Option Nat := (l.find? fun e => e.2 == i).map Prod.fst

/-- The expiry list's canonical form: in order of due time, and at most one entry for any slot (R131). -/
def expiryWf (l : List (Nat × Fin 64)) : Bool :=
  decide (l.Pairwise fun a b => a.1 < b.1 ∨ a.1 = b.1 ∧ a.2 < b.2) && decide ((l.map Prod.snd).Nodup)

/-! ### Stages of a call -/

/-- The due time that the table opening chapter 8 gives for a record's phase (R131, R145). -/
def Call.dueTime (lim : DeviceLimits) (c : Call) : Option Nat :=
  match c.phase with
  | .scheduled => some c.tOpen
  | .call => some c.tSched
  | .window | .extended | .traceHold => c.tEnd
  | .settling => c.tEnd.map fun t => t + lim.cmax + lim.settleGuard
  | .uncrossDue | .cancelled => none

/-- The PHASE_NOTICE of a record (R147). -/
def Call.phaseNotice (i : Fin 64) (c : Call) : TxFrame :=
  .phaseNotice { slot := i, phase := c.phase, revision := c.revision, tOpen := c.tOpen, tSched := c.tSched
                 cancelCause := c.cancelCause }

/-- The CLOSE_NOTICE of a record (R148). -/
def Call.closeNotice (i : Fin 64) (c : Call) : TxFrame :=
  .closeNotice { slot := i, revision := c.revision, tOpen := c.tOpen, tEnd := c.tEnd, draw := c.draw, inCall := c.inCall
                 late := c.late, stragglers := c.stragglers, latestIn := c.latestIn, required := c.required
                 closeGrade := c.closeGrade, untracedFlag := c.untracedFlag, extUsed := c.extUsed, holdsUsed := c.holdsUsed }

/-- The record is written with no stage made: a change of counts or of the notice set (R115). -/
def State.putCall (i : Fin 64) (c : Call) (s : State) : State := { s with slots := s.slots.set i (some c) }

/-- The record with its revision increased by 1 (R115). -/
def Call.revised (c : Call) : Call := { c with revision := c.revision + 1 }

/-- A stage of a call (R115): the record is written with its revision increased by 1, the slot's expiry entry is placed for
its phase (R131), and one PHASE_NOTICE goes to the notice set. -/
def State.commit (i : Fin 64) (c : Call) (s : State) : State :=
  ({ s with slots := s.slots.set i (some c.revised)
            expiry := expiryRefile i (c.revised.dueTime s.ops.limits) s.expiry }).handNotice c.notices (c.revised.phaseNotice i)

/-- The slot's entry is due: it stands in the expiry list and exchange time has reached its due time (R132). -/
def State.entryDue (i : Fin 64) (s : State) : Bool :=
  match expiryOf i s.expiry with
  | some d => decide (d ≤ s.now)
  | none => false

/-- Any auction is in CALL, WINDOW, EXTENDED, TRACE_HOLD or SETTLING (R19, R156). -/
def State.anyLive (s : State) : Bool := s.slots.any fun c => c.any fun c => c.phase.live

end Sys2Proof.Machine
end

