-- ==== Sys2Proof/Machine/Calibration.lean ====
section
/-! DEFINITION. Lane calibration (chapter 6): probes and echoes, the sample window, and what is derived from it. -/

namespace Sys2Proof.Machine

/-! ### The window and its use (R108 to R112) -/

/-- The age of a sample exceeds the limit, in s (R109). -/
def Sample.tooOld (now limit : Nat) (x : Sample) : Bool := decide (limit * second < now - x.taken)

/-- The samples of a window that are not too old, in their order (R109). -/
def agedWindow (now limit : Nat) (w : List Sample) : List Sample := w.filter fun x => !x.tooOld now limit

/-- A sample joins at the newest end; the oldest of eight leaves (R108). -/
def appendSample (x : Sample) (w : List Sample) : List Sample := (if w.length < 8 then w else w.drop 1) ++ [x]

/-- The lane with a window and what is derived from it under Cmax (R110, R111). -/
def Lane.withWindow (cmax : Nat) (w : List Sample) (n : Lane) : Lane :=
  { n with window := w, derived := derive cmax n.settings.c0 n.settings.asymmetry w }

/-- The standing fell from CALIBRATED (R112). -/
def lostCalibration (before after : Lane) : Bool :=
  before.derived.standing == .calibrated && after.derived.standing != .calibrated

/-- A change of one lane that uses its window; CALIBRATION_LOST is raised where the standing falls from CALIBRATED over
the whole of the event's work (R112). -/
def State.useWindow (l : Fin 16) (f : Lane → Lane) (s : State) : State :=
  let s' := s.onLane l f
  if lostCalibration s.lanes[l] (f s.lanes[l]) then s'.raise .calibrationLost else s'

/-- The window is aged and its figures derived, at an event that uses it (R109). -/
def Lane.age (now cmax : Nat) (n : Lane) : Lane := n.withWindow cmax (agedWindow now n.settings.ageLimit n.window)

/-- Lane `l`'s window is used at this event (R109). -/
def State.ageLane (l : Fin 16) (s : State) : State := s.useWindow l (Lane.age s.now s.ops.limits.cmax)

/-! ### Probes (R101 to R104, R106, R107) -/

/-- A probe can be placed: none is outstanding and the notice share has a free entry (R101, R103). -/
def Lane.canProbe (n : Lane) : Bool := n.probe.isNone && decide (n.notices < shareSize)

/-- The placing of a probe (R102). -/
def Lane.placeProbe (n : Lane) : Lane :=
  { n with tagCounter := n.tagCounter + 1, probe := some { tag := n.tagCounter, departed := none }
           tx := n.tx ++ [.probe n.tagCounter] }

/-- The outstanding probe is abandoned unanswered, and its tag becomes the last expired tag (R106, R107). -/
def Lane.expireProbe (p : Probe) (n : Lane) : Lane :=
  { n with probe := none, lastExpired := some p.tag, echoDue := none }

/-- A step of exchange time abandons a departed outstanding probe; one still in the transmit queue is kept (R107). -/
def Lane.abandonProbe (n : Lane) : Lane :=
  match n.probe with
  | some { tag, departed := some t } => n.expireProbe { tag, departed := some t }
  | some { tag := _, departed := none } => n
  | none => n

/-- The interval timer started or restarted from raw count `raw`; a probe interval of 0 leaves it stopped (R101). -/
def Lane.startInterval (raw : Nat) (n : Lane) : Lane :=
  { n with intervalDue := if n.up ∧ n.settings.probeInterval ≠ 0 then some (raw + n.settings.probeInterval * 1000000) else none }

/-- PROBE_INTERVAL_EXPIRY (R101): the timer is restarted from the expiry, and a probe placed where one can be. -/
def intervalExpiry (l : Fin 16) (s : State) : State :=
  match s.lanes[l].intervalDue with
  | some due =>
    if s.lanes[l].up ∧ due ≤ s.ts.raw then
      s.onLane l fun n => let n := n.startInterval s.ts.raw; if n.canProbe then n.placeProbe else n
    else s
  | none => s

def execProbeIntervalExpiry (dt : Nat) (l : Fin 16) (s : State) : Out := s.atEvent dt (intervalExpiry l)

/-- The frame at the head of the transmit queue is the outstanding probe, which has not departed. -/
def Lane.probeAtHead (n : Lane) : Bool :=
  match n.tx, n.probe with
  | .probe tag :: _, some { tag := t, departed := none } => tag == t
  | _, _ => false

/-- PROBE_DEPARTURE (R104): the departure time is latched and the echo timer starts on the raw count. -/
def probeLeavesPort (l : Fin 16) (s : State) : State :=
  if s.lanes[l].up && s.lanes[l].probeAtHead then
    s.onLane l fun n => { n with probe := n.probe.map fun p => { p with departed := some s.now }
                                 echoDue := some (s.ts.raw + n.settings.echoTimeout * 1000) }
  else s

def execProbeDeparture (dt : Nat) (l : Fin 16) (s : State) : Out := s.atEvent dt (probeLeavesPort l)

/-- ECHO_TIMEOUT (R106). -/
def echoTimerExpires (l : Fin 16) (s : State) : State :=
  match s.lanes[l].echoDue, s.lanes[l].probe with
  | some due, some p => if due ≤ s.ts.raw then s.onLane l (Lane.expireProbe p) else s
  | _, _ => s

def execEchoTimeout (dt : Nat) (l : Fin 16) (s : State) : Out := s.atEvent dt (echoTimerExpires l)

/-! ### Echoes (R105) -/

/-- The bad echoes count increased by 1. -/
def Lane.badEcho (n : Lane) : Lane := { n with counts := { n.counts with badEchoes := satInc cap16 n.counts.badEchoes } }

/-- The late echoes count increased by 1. -/
def Lane.lateEcho (n : Lane) : Lane := { n with counts := { n.counts with lateEchoes := satInc cap16 n.counts.lateEchoes } }

/-- The delay sample of an answered probe: half of the round trip less the turnaround, rounded down (R105). -/
def delaySample (latch departed turnaround : Nat) : Int := ((latch : Int) - departed - turnaround).fdiv 2

/-- The outstanding probe is cleared and the echo timer stops: the probe is answered (R105). -/
def Lane.answered (n : Lane) : Lane := { n with probe := none, echoDue := none }

/-- An echo answers the outstanding probe (R105): a sample below 0 is discarded and counted bad, with the window as it was
(assumption 11); any other is appended to the window, aged first (R108, R109). -/
def State.answerProbe (l : Fin 16) (latch departed turnaround : Nat) (s : State) : State :=
  let d := delaySample latch departed turnaround
  if d < 0 then s.onLane l fun n => n.answered.badEcho
  else s.useWindow l fun n =>
    n.answered.withWindow s.ops.limits.cmax
      (appendSample { d := d.toNat, taken := latch } (agedWindow s.now n.settings.ageLimit n.window))

/-- An ECHO frame, with its arrival latch, is classified by its tag (R105). -/
def State.classifyEcho (l : Fin 16) (latch : Nat) (tag : Tag) (payload : List Byte) (s : State) : State :=
  if payload.length ≠ 2 then s.onLane l Lane.badEcho
  else
    match s.lanes[l].probe with
    | some p =>
      if tag = p.tag then
        match p.departed with
        | some t => s.answerProbe l latch t (field 0 2 payload)
        | none => s.onLane l Lane.badEcho
      else if s.lanes[l].lastExpired = some tag then s.onLane l Lane.lateEcho
      else s.onLane l Lane.badEcho
    | none => if s.lanes[l].lastExpired = some tag then s.onLane l Lane.lateEcho else s.onLane l Lane.badEcho

/-- The end of an ECHO frame at lane `l` (R68, R69, R105): a whole one is classified, and its arrival latch is spent with it. -/
def echoEnds (l : Fin 16) (tag : Tag) (payload : List Byte) (s : State) : State :=
  laneFrame l payload (fun latch s => (s.onLane l fun n => { n with rxLatch := none }).classifyEcho l latch tag payload) s

/-- At the operations port an ECHO is refused NO_RIGHT before any block is reached (R153). -/
def echoBlock : Block := fun _ _ _ s => refuse .noRight s

/-- ECHO on its path. -/
def echoTaken (port : FramePort) (tag : Tag) (payload : List Byte) (s : State) : State :=
  match port with
  | .lane l => echoEnds l tag payload s
  | .ops => takeFromOps .echo tag payload echoBlock s

def execEcho (dt : Nat) (port : FramePort) (tag : Tag) (payload : List Byte) (s : State) : Out :=
  s.atEvent dt (echoTaken port tag payload)

/-! ### CALIBRATE (R103) -/

/-- CALIBRATE: a probe on the requesting lane, or BUSY. Nothing is taken at the operations port (R153). -/
def calibrateBlock : Block := fun p _ _ s =>
  match p with
  | .lane l =>
    if s.lanes[l].canProbe then (s.onLane l Lane.placeProbe, .done (.probeTag s.lanes[l].tagCounter)) else refuse .busy s
  | .ops => refuse .noRight s

def execCalibrate (dt : Nat) (src : Source) (s : State) : Out :=
  s.atEvent dt (takeRequest .calibrate src calibrateBlock)

/-! ### What link down does to the calibration logic (R112) -/

/-- The window is emptied and its figures derived, the probe, the last expired tag and both timers cleared (R66, R112). -/
def Lane.dropCalibration (cmax : Nat) (n : Lane) : Lane :=
  { n.withWindow cmax [] with probe := none, lastExpired := none, intervalDue := none, echoDue := none }

end Sys2Proof.Machine
end

