-- ==== Sys2Proof/Machine/Lanes.lean ====
section
/-! DEFINITION. Client lanes (chapter 4): link events, the start of a frame, LANE_STATUS and SET_LANE. The ends of
frames are in Machine/Frames.lean. -/

namespace Sys2Proof.Machine

/-! ### Link up and link down (R65, R66) -/

/-- A lane DOWN becomes UP; LANE_UP is raised and the probe interval starts (R65, R101). -/
def linkComesUp (l : Fin 16) (s : State) : State :=
  if s.lanes[l].up then s else (s.onLane l fun n => { n with up := true }.startInterval s.ts.raw).raise .laneUp

def execLinkUp (dt : Nat) (l : Fin 16) (s : State) : Out := s.atEvent dt (linkComesUp l)

/-- A lane's record at link down: both queues emptied, the frame in reception abandoned, calibration dropped (R66, R112). -/
def Lane.goDown (cmax : Nat) (n : Lane) : Lane :=
  { n.dropCalibration cmax with up := false, queue := [], tx := [], rxLatch := none }

/-- A lane UP becomes DOWN; LANE_DOWN is raised, and CALIBRATION_LOST with it where the standing was CALIBRATED (R66, R112). -/
def linkGoesDown (l : Fin 16) (s : State) : State :=
  if s.lanes[l].up then (s.useWindow l (Lane.goDown s.ops.limits.cmax)).raise .laneDown else s

def execLinkDown (dt : Nat) (l : Fin 16) (s : State) : Out := s.atEvent dt (linkGoesDown l)

/-! ### Receiving a frame (R67, R68) -/

/-- The arrival latch is taken at the start delimiter (R67). -/
def delimiterArrives (l : Fin 16) (s : State) : State :=
  if s.lanes[l].up then s.onLane l fun n => { n with rxLatch := some s.now } else s

def execStartDelimiter (dt : Nat) (l : Fin 16) (s : State) : Out := s.atEvent dt (delimiterArrives l)

/-! ### LANE_STATUS (R81) -/

/-- What LANE_STATUS reports of a lane (R81). -/
def Lane.report (l : Fin 16) (n : Lane) : LaneReport :=
  { lane := l, up := n.up, settings := n.settings, derived := n.derived, samples := n.window.length
    probeTag := n.probe.map Probe.tag, sequence := n.sequence, lastStamp := n.lastStamp, cursor := n.cursor
    queued := n.queue.length, replies := n.replies, notices := n.notices, counts := n.counts }

/-- The five counts at 0 (R82). -/
def LaneCounts.zero : LaneCounts := { frameErrors := 0, overruns := 0, noticesLost := 0, lateEchoes := 0, badEchoes := 0 }

/-- A lane number outside 0 to 15 names no lane (R81, R129, R155). -/
def decodeLane (v : Nat) : Option (Fin 16) := if h : v < 16 then some ⟨v, h⟩ else none

/-- LANE_STATUS (R81): the window is aged first (R109); at the port, with the clear choice, the counts are cleared after
they have been placed in the reply. -/
def laneStatusBlock : Block := fun p _ b s =>
  match p with
  | .lane l => let s' := s.ageLane l; (s', .done (.laneStatus (s'.lanes[l].report l)))
  | .ops =>
    match decodeLane (field 0 1 b), decodeFlag (field 1 1 b) with
    | some l, some clear =>
      let s' := s.ageLane l
      (if clear then s'.onLane l fun n => { n with counts := .zero } else s', .done (.laneStatus (s'.lanes[l].report l)))
    | _, _ => refuse .range s

def execLaneStatus (dt : Nat) (src : Source) (s : State) : Out :=
  s.atEvent dt (takeRequest .laneStatus src laneStatusBlock)

/-! ### SET_LANE (R74, R113, R155) -/

/-- The settings a SET_LANE carries (11.3); none where a code has no meaning (R168) or a value lies outside its range (4.1),
c0 held against Cmax as it stands. All are refused RANGE (R155). -/
def decodeLaneSettings (cmax : Nat) (b : List Byte) : Option LaneSettings :=
  match decodeRoles (field 1 1 b), (decodeRequired (field 2 1 b)).join with
  | some roles, some required =>
    let c : LaneSettings :=
      { roles, required, c0 := field 3 4 b, asymmetry := field 7 4 b, probeInterval := field 11 2 b
        echoTimeout := field 13 2 b, ageLimit := field 15 2 b }
    if c.c0 ≤ cmax ∧ c.asymmetry ≤ 100000 ∧ (c.probeInterval = 0 ∨ inRange 10 60000 c.probeInterval)
        ∧ inRange 10 10000 c.echoTimeout ∧ inRange 1 3600 c.ageLimit
    then some c else none
  | _, _ => none

/-- SET_LANE (R155): the settings are written at once, and the interval timer restarts (R101). -/
def setLaneBlock : Block := fun _ _ b s =>
  match decodeLane (field 0 1 b), decodeLaneSettings s.ops.limits.cmax b with
  | some l, some c => (s.onLane l fun n => { n with settings := c }.startInterval s.ts.raw, .done (.lane l c))
  | _, _ => refuse .range s

def execSetLane (dt : Nat) (src : Source) (s : State) : Out := s.atEvent dt (takeRequest .setLane src setLaneBlock)

end Sys2Proof.Machine
end

