-- ==== Sys2Proof/Machine/Auction.lean ====
section
/-! DEFINITION. The auction table and the group map (chapter 7): addressing, and the requests that read, make, change and end
auction records. -/

namespace Sys2Proof.Machine

/-! ### Addressing (R117, R118) -/

/-- The cursor a path's NEXT and PREV resolve against (R118). -/
def State.cursorOf (p : Path) (s : State) : Fin 64 :=
  match p with
  | .lane l => s.lanes[l].cursor
  | .ops => s.ops.cursor

/-- The path's cursor moved (R118). -/
def State.moveCursor (p : Path) (i : Fin 64) (s : State) : State :=
  match p with
  | .lane l => s.onLane l fun n => { n with cursor := i }
  | .ops => { s with ops := { s.ops with cursor := i } }

/-- The slots NEXT examines from cursor `c`, in order: rising, and the cursor itself last (R118). -/
def nextOrder (c : Fin 64) : List (Fin 64) := (List.finRange 64).map fun i => c + 1 + i

/-- The slots PREV examines from cursor `c`, in order: falling, and the cursor itself last (R118). -/
def prevOrder (c : Fin 64) : List (Fin 64) := (List.finRange 64).map fun i => c - 1 - i

/-- The slot is not FREE. -/
def State.occupied (s : State) (i : Fin 64) : Bool := s.slots[i].isSome

/-- A form resolved: the slot, whether the search wrapped, and the state with the cursor moved; or the outcome of a refusal,
which leaves the state as it was (R117, R118). -/
def State.resolve (p : Path) (f : Form) (s : State) : Except Code (Fin 64 × Bool × State) :=
  match f with
  | .slot n => if h : n < 64 then .ok (⟨n, h⟩, false, s) else .error .range
  | .key k =>
    if 4095 < k then .error .range
    else match mapLookup k s.groupMap with
      | some i => .ok (i, false, s)
      | none => .error .noRecord
  | .next =>
    match (nextOrder (s.cursorOf p)).find? s.occupied with
    | some i => .ok (i, decide (i ≤ s.cursorOf p), s.moveCursor p i)
    | none => .error .noRecord
  | .prev =>
    match (prevOrder (s.cursorOf p)).find? s.occupied with
    | some i => .ok (i, decide (s.cursorOf p ≤ i), s.moveCursor p i)
    | none => .error .noRecord

/-- The reply carries WRAP where the resolution set it (R118). -/
def Answer.withWrap (w : Bool) (a : Answer) : Answer := { a with ind := { a.ind with wrap := w } }

/-- A request whose addressing form stands at offset `off`: the form is decoded and resolved (R117, R168), and the entry's own
checks follow with the slot found. -/
def addressed (off : Nat) (p : Path) (b : List Byte) (act : Fin 64 → State → State × Answer) (s : State) : State × Answer :=
  match decodeForm off b with
  | none => refuse .range s
  | some f =>
    match s.resolve p f with
    | .error c => refuse c s
    | .ok (i, wrap, s') => ((act i s').1, (act i s').2.withWrap wrap)

/-! ### QUERY_AUCTION (R120) -/

/-- The record as a snapshot gives it out: T_end, the draw value, the close grade and the untraced flag are withheld until the
end has been taken (R120, R149). -/
def Call.revealed (c : Call) : Call :=
  match c.phase with
  | .settling => c
  | .uncrossDue => c
  | .cancelled => c
  | .scheduled | .call | .window | .extended | .traceHold =>
    { c with tEnd := none, draw := none, closeGrade := none, untracedFlag := none }

/-- The snapshot of a slot (R120). -/
def State.snapshot (i : Fin 64) (s : State) : Snapshot :=
  { slot := i, call := s.slots[i].map Call.revealed, keys := keysHolding i s.groupMap }

def queryAuctionBlock : Block := fun p _ b =>
  addressed 0 p b fun i s => (s, .done (.snapshot (s.snapshot i)))

def execQueryAuction (dt : Nat) (src : Source) (s : State) : Out :=
  s.atEvent dt (takeRequest .queryAuction src queryAuctionBlock)

/-! ### SCHEDULE (R121, R122) -/

/-- The ceiling of T_open and T_sched (7.1). -/
def timeCeiling : Nat := 9223000000 * second

/-- The keys of a key list, two bytes each (11.5). -/
def keyList : List Byte → List Nat
  | hi :: lo :: rest => be [hi, lo] :: keyList rest
  | _ => []

/-- The fields of a SCHEDULE, absent ones at their defaults (7.1, 11.5). `required` is absent where the code is UNTRACED's. -/
structure ScheduleFields where
  slot : Nat
  tOpen : Nat
  tSched : Nat
  wr : Nat
  extMin : Nat
  extMax : Nat
  extCap : Nat
  holdStep : Nat
  holdMax : Nat
  required : Option Required
  notices : LaneSet
  deriving DecidableEq, Repr

/-- A field that a presence byte may mark absent, and its default (R168). -/
def optional (present : Nat) (bit : Nat) (v dflt : Nat) : Nat := if present.testBit bit then v else dflt

/-- The fields of a SCHEDULE decoded; none where an encoding names no value (R168, 11.5). -/
def decodeSchedule (b : List Byte) : Option ScheduleFields :=
  let pr := field 1 1 b
  match requiredTime 2 b, requiredTime 11 b, (if pr.testBit 5 then decodeRequired (field 38 1 b) else some (some .b)) with
  | some tOpen, some tSched, some required =>
    some { slot := field 0 1 b, tOpen, tSched, wr := field 20 4 b
           extMin := optional pr 0 (field 24 4 b) 1000, extMax := optional pr 1 (field 28 4 b) 300000
           extCap := optional pr 2 (field 32 1 b) 3, holdStep := optional pr 3 (field 33 4 b) 30000
           holdMax := optional pr 4 (field 37 1 b) 4, required, notices := BitVec.ofNat 16 (field 39 2 b) }
  | _, _, _ => none

/-- The ranges of 7.1, T_sched after T_open, and the extension length min at most its max (R121, fifth row). -/
def ScheduleFields.ok (q : ScheduleFields) : Bool :=
  decide (q.tOpen ≤ timeCeiling) && decide (q.tSched ≤ timeCeiling) && decide (q.wr ≤ 600000000)
    && inRange 1000 600000 q.extMin && inRange 1000 600000 q.extMax && decide (q.extCap ≤ 15)
    && inRange 1000 300000 q.holdStep && decide (q.holdMax ≤ 15)
    && decide (q.tOpen < q.tSched) && decide (q.extMin ≤ q.extMax)

/-- A key's slot, where it holds the key against a move (R121, R127). -/
def State.keyHeld (k : Nat) (s : State) : Option (Fin 64) :=
  (mapLookup k s.groupMap).filter fun i => s.slots[i].any fun c => c.phase.holdsKeys

/-- The first listed key that conflicts, and the slot it holds (R121). -/
def State.firstConflict (keys : List Nat) (s : State) : Option (Nat × Fin 64) :=
  keys.findSome? fun k => (s.keyHeld k).map fun i => (k, i)

/-- The record of a call as it is scheduled, before its revision becomes 1 (R122). -/
def ScheduleFields.call (q : ScheduleFields) (required : Required) : Call :=
  { phase := .scheduled, revision := 0, tOpen := q.tOpen, tSched := q.tSched, wr := q.wr, tEnd := none, draw := none
    extMin := q.extMin, extMax := q.extMax, extCap := q.extCap, extUsed := 0, holdStep := q.holdStep, holdMax := q.holdMax
    holdsUsed := 0, required, notices := q.notices, inCall := 0, late := 0, stragglers := 0, latestIn := none
    closeGrade := none, untracedFlag := none, cancelCause := none }

/-- Every listed key is mapped to the slot (R122). -/
def State.mapKeys (keys : List Nat) (i : Fin 64) (s : State) : State :=
  { s with groupMap := keys.foldl (fun m k => mapInsert k i m) s.groupMap }

/-- A SCHEDULE that passes every check is carried out (R122). -/
def State.scheduleCall (i : Fin 64) (keys : List Nat) (c : Call) (s : State) : State := (s.mapKeys keys i).commit i c

/-- A slot number above 63 names no slot. -/
def decodeSlot (v : Nat) : Option (Fin 64) := if h : v < 64 then some ⟨v, h⟩ else none

/-- SCHEDULE, checked in the order of R121. -/
def scheduleBlock : Block := fun _ arrival b s =>
  let keys := keyList (b.drop 41)
  if !decide keys.Nodup then refuse .badForm s
  else
    match decodeSchedule b with
    | none => refuse .range s
    | some q =>
      match decodeSlot q.slot with
      | none => refuse .range s
      | some i =>
        if keys.any fun k => 4095 < k then refuse .range s
        else if s.occupied i then refuse .wrongPhase s
        else if q.tOpen ≤ arrival then refuse .past s
        else
          match q.required with
          | none => refuse .range s
          | some required =>
            if !q.ok then refuse .range s
            else
              match s.firstConflict keys with
              | some (k, j) => (s, { code := .conflict, ind := .clear, body := .keyConflict k j })
              | none => (s.scheduleCall i keys (q.call required), .done (.slotRevision i 1))

def execSchedule (dt : Nat) (src : Source) (s : State) : Out := s.atEvent dt (takeRequest .schedule src scheduleBlock)

/-! ### RESCHEDULE (R123, R124) -/

/-- The three optional fields of a RESCHEDULE (7.6). -/
structure TimeChange where
  tOpen : Option Nat
  tSched : Option Nat
  wr : Option Nat
  deriving DecidableEq, Repr

/-- A time that a presence byte may mark absent. `none`: it is present and names no time (R168; assumption 14). -/
def optionalTime (present : Bool) (off : Nat) (b : List Byte) : Option (Option Nat) :=
  if present then (requiredTime off b).map some else some none

/-- The fields of a RESCHEDULE decoded (11.5). -/
def decodeChange (b : List Byte) : Option TimeChange :=
  let pr := field 3 1 b
  match optionalTime (pr.testBit 0) 4 b, optionalTime (pr.testBit 1) 13 b with
  | some tOpen, some tSched => some { tOpen, tSched, wr := if pr.testBit 2 then some (field 22 4 b) else none }
  | _, _ => none

/-- All three fields are absent; the presence byte's unused bits are not read (7.6, R168). -/
def noChange (b : List Byte) : Bool := field 3 1 b % 8 == 0

/-- The fields lie in the ranges of 7.1. -/
def TimeChange.ok (q : TimeChange) : Bool :=
  q.tOpen.all (fun t => decide (t ≤ timeCeiling)) && q.tSched.all (fun t => decide (t ≤ timeCeiling))
    && q.wr.all fun w => decide (w ≤ 600000000)

/-- The record with the fields present written. -/
def Call.retimed (q : TimeChange) (c : Call) : Call :=
  { c with tOpen := q.tOpen.getD c.tOpen, tSched := q.tSched.getD c.tSched, wr := q.wr.getD c.wr }

/-- The fields are written; a stage is made where one of them has changed (R115, R123, R124). -/
def State.retime (i : Fin 64) (q : TimeChange) (c : Call) (s : State) : State × Answer :=
  if c.retimed q = c then (s, .done (.revision c.revision))
  else (s.commit i (c.retimed q), .done (.revision c.revised.revision))

/-- A RESCHEDULE of a record in SCHEDULED (R123). -/
def rescheduleScheduled (i : Fin 64) (arrival : Nat) (q : TimeChange) (c : Call) (s : State) : State × Answer :=
  if q.tOpen.any fun t => decide (t ≤ arrival) then refuse .past s
  else if !q.ok || decide ((c.retimed q).tSched ≤ (c.retimed q).tOpen) then refuse .range s
  else s.retime i q c

/-- A new T_sched in CALL lies after the arrival, T_open and the latest in-call stamp (R124). -/
def Call.schedOk (arrival t : Nat) (c : Call) : Bool :=
  decide (arrival < t) && decide (c.tOpen < t) && c.latestIn.all fun x => decide (x < t)

/-- A RESCHEDULE of a record in CALL (R124). -/
def rescheduleCall (i : Fin 64) (arrival : Nat) (q : TimeChange) (c : Call) (s : State) : State × Answer :=
  if q.tOpen.isSome then refuse .wrongPhase s
  else if !q.ok || !q.tSched.all (c.schedOk arrival) then refuse .range s
  else s.retime i q c

/-- RESCHEDULE (7.6). -/
def rescheduleBlock : Block := fun p arrival b =>
  addressed 0 p b fun i s =>
    if noChange b then refuse .badForm s
    else
      match decodeChange b with
      | none => refuse .range s
      | some q =>
        match s.slots[i] with
        | none => refuse .wrongPhase s
        | some c =>
          match c.phase with
          | .scheduled => rescheduleScheduled i arrival q c s
          | .call => rescheduleCall i arrival q c s
          | .window | .extended | .traceHold | .settling | .uncrossDue | .cancelled => refuse .wrongPhase s

def execReschedule (dt : Nat) (src : Source) (s : State) : Out :=
  s.atEvent dt (takeRequest .reschedule src rescheduleBlock)

/-! ### CANCEL and RETIRE (R125, R126) -/

/-- The record of a call cancelled by request: an end drawn and not taken is dropped with its draw value (R125). -/
def Call.cancelledBy (cause : CancelCause) (c : Call) : Call :=
  { c with
    phase := .cancelled, cancelCause := some cause
    tEnd := if c.phase = .settling then c.tEnd else none
    draw := if c.phase = .settling then c.draw else none }

/-- CANCEL (R125). -/
def cancelBlock : Block := fun p _ b =>
  addressed 0 p b fun i s =>
    match s.slots[i] with
    | none => refuse .wrongPhase s
    | some c =>
      if c.phase.due then (s.commit i (c.cancelledBy .request), .done (.revision c.revised.revision))
      else refuse .wrongPhase s

def execCancel (dt : Nat) (src : Source) (s : State) : Out := s.atEvent dt (takeRequest .cancel src cancelBlock)

/-- The slot becomes FREE and every key that holds it is unmapped (R126). -/
def State.retireSlot (i : Fin 64) (s : State) : State :=
  { s with slots := s.slots.set i none, groupMap := mapEraseSlot i s.groupMap }

/-- RETIRE (R126). -/
def retireBlock : Block := fun p _ b =>
  addressed 0 p b fun i s =>
    match s.slots[i] with
    | none => refuse .wrongPhase s
    | some c =>
      if c.phase.due then refuse .wrongPhase s
      else (s.retireSlot i, .done (.unmapped (keysHolding i s.groupMap)))

def execRetire (dt : Nat) (src : Source) (s : State) : Out := s.atEvent dt (takeRequest .retire src retireBlock)

/-! ### MAP_KEY and UNMAP_KEY (R127, R128) -/

/-- The phases a MAP_KEY's target may be in: SCHEDULED to SETTLING (R127). -/
def State.mayTakeKeys (i : Fin 64) (s : State) : Bool := s.slots[i].any fun c => c.phase.due

/-- A key is mapped to a slot. -/
def State.mapKey (k : Nat) (i : Fin 64) (s : State) : State := { s with groupMap := mapInsert k i s.groupMap }

/-- MAP_KEY (R127): the key's range is checked before the target form is resolved. -/
def mapKeyBlock : Block := fun p _ b s =>
  let k := field 0 2 b
  if 4095 < k then refuse .range s
  else
    addressed 2 p b (fun i s =>
      if !s.mayTakeKeys i then refuse .wrongPhase s
      else
        match (s.keyHeld k).filter fun j => j != i with
        | some j => (s, { code := .conflict, ind := .clear, body := .heldSlot (some j) })
        | none => (s.mapKey k i, .done (.heldSlot (mapLookup k s.groupMap)))) s

def execMapKey (dt : Nat) (src : Source) (s : State) : Out := s.atEvent dt (takeRequest .mapKey src mapKeyBlock)

/-- A key is unmapped. -/
def State.unmapKey (k : Nat) (s : State) : State := { s with groupMap := mapErase k s.groupMap }

/-- UNMAP_KEY (R128). -/
def unmapKeyBlock : Block := fun _ _ b s =>
  let k := field 0 2 b
  if 4095 < k then refuse .range s
  else
    match mapLookup k s.groupMap with
    | none => refuse .noRecord s
    | some i =>
      if s.slots[i].any fun c => c.phase.live then refuse .wrongPhase s
      else (s.unmapKey k, .done (.heldSlot (some i)))

def execUnmapKey (dt : Nat) (src : Source) (s : State) : Out := s.atEvent dt (takeRequest .unmapKey src unmapKeyBlock)

/-! ### SUBSCRIBE and UNSUBSCRIBE (R129) -/

/-- The set that holds one lane alone. -/
def laneBit (l : Fin 16) : LaneSet := 1#16 <<< l.val

/-- The lane whose membership a subscription request changes: its own, or the one named at the port (R129). -/
def memberLane (p : Path) (b : List Byte) : Option (Fin 16) :=
  match p with
  | .lane l => some l
  | .ops => decodeLane (field 3 1 b)

/-- A change of a lane's membership of a record's notice set (R129). -/
def membership (change : LaneSet → Fin 16 → LaneSet) : Block := fun p _ b =>
  addressed 0 p b fun i s =>
    match memberLane p b with
    | none => refuse .range s
    | some l =>
      match s.slots[i] with
      | none => refuse .wrongPhase s
      | some c => (s.putCall i { c with notices := change c.notices l }, .done (.revision c.revision))

/-- A lane joins a notice set (R129). -/
def addLane (set : LaneSet) (l : Fin 16) : LaneSet := set ||| laneBit l

/-- A lane leaves a notice set (R129). -/
def dropLane (set : LaneSet) (l : Fin 16) : LaneSet := set &&& ~~~laneBit l

def execSubscribe (dt : Nat) (src : Source) (s : State) : Out :=
  s.atEvent dt (takeRequest .subscribe src (membership addLane))

def execUnsubscribe (dt : Nat) (src : Source) (s : State) : Out :=
  s.atEvent dt (takeRequest .unsubscribe src (membership dropLane))

end Sys2Proof.Machine
end

