-- ==== Sys2Proof/Machine/Traceability.lean ====
section
/-! DEFINITION. The traceability unit (chapter 3): the bound U, the device grade, the trace sample, the evidence interval, and
the requests TRACE_REPORT, CLOSE_INTERVAL and SET_TRACE. -/

namespace Sys2Proof.Machine

/-! ### The bound (R47 to R50) -/

/-- The age of a mark at instant `t`, in whole ms; 0 where the mark is the later (R49). -/
def ageMs (t mark : Nat) : Nat := (t - mark) / 1000000

/-- h1, the growth by W (R50). -/
def growth1 (w age : Nat) : Nat := min cap32 (w * age / 1000000)

/-- h2, the growth by Q (R50). -/
def growth2 (q age : Nat) : Nat := min cap32 (q * age ^ 2 / 2000000000)

/-- U for instant `t`, from the timescale unit as it stands (R47 to R49). In service a last applied mark is always present
(R49); without one the model claims no bound (assumption 19). -/
def boundAt (set : TraceSettings) (ts : Timescale) (t : Nat) : Nat :=
  match ts.state.inService, ts.lastMark with
  | true, some (uRef, mark) =>
    min cap32 (uRef + ts.slewNs.natAbs + growth1 set.w (ageMs t mark) + growth2 set.q (ageMs t mark) + 2)
  | true, none => cap32
  | false, _ => cap32

/-- U for instant `t` in state `s`. -/
def State.bound (t : Nat) (s : State) : Nat := boundAt s.trace.settings s.ts t

/-- DG evaluated with the bound `u`; GRADE_CHANGE is raised where it moves (R51 to R53). -/
def State.evaluateWith (u : Nat) (s : State) : State :=
  let g := evalGrade s.trace.settings s.inService s.trace.dg u
  let s' := { s with trace := { s.trace with dg := g } }
  if g = s.trace.dg then s' else s'.raise .gradeChange

/-- U is computed for instant `t` and DG evaluated with it (R47, R51). -/
def State.evaluate (t : Nat) (s : State) : State := s.evaluateWith (s.bound t)

/-- A change of the timescale state: the traceability unit evaluates DG at the current exchange time (R5, R53). -/
def State.changeState (st : TimescaleState) (s : State) : State :=
  let s' := { s with ts := { s.ts with state := st } }
  s'.evaluate s'.now

/-! ### The trace sample and the evidence interval -/

/-- The first whole second after exchange time `t` (R57). -/
def secondAfter (t : Nat) : Nat := (t / second + 1) * second

/-- The evidence interval after a sample with bound `u` in grade `g` (R58). -/
def Evidence.sample (u : Nat) (g : Grade) (e : Evidence) : Evidence :=
  { e with worstU := max e.worstU u, seconds := e.seconds.bump g }

/-- A trace sample for instant `t`, taken at the exchange time as it stands (R57, R58). -/
def State.sampleAt (t : Nat) (s : State) : State :=
  let s' := s.evaluate t
  { s' with trace := { s'.trace with interval := s'.trace.interval.sample (s.bound t) s'.trace.dg
                                     nextSample := secondAfter s.now } }

/-- One reference switch is counted (R42, R59). -/
def State.countSwitch (s : State) : State :=
  { s with trace := { s.trace with interval := { s.trace.interval with
      switches := satInc cap16 s.trace.interval.switches } } }

/-- One holdover entry is counted (R15, R59). -/
def State.countHoldover (s : State) : State :=
  { s with trace := { s.trace with interval := { s.trace.interval with
      holdovers := satInc cap16 s.trace.interval.holdovers } } }

/-- One stamp of grade `g` is counted (R59, R87). -/
def State.countStamp (g : Grade) (s : State) : State :=
  { s with trace := { s.trace with interval := { s.trace.interval with
      stamps := s.trace.interval.stamps.bump g } } }

/-- TRACE_SAMPLE: where exchange time has reached the next sample second, the sample for that whole second (R57, R58). -/
def execTraceSample (dt : Nat) (s : State) : Out :=
  s.atEvent dt fun s => if s.trace.nextSample ≤ s.now then s.sampleAt s.trace.nextSample else s

/-- SLEW_END: the instant at which the slew has worked off the whole of S. The advance to that instant has done so (R3). -/
def execSlewEnd (dt : Nat) (s : State) : Out := s.atEvent dt id

/-! ### Requests -/

/-- The port of the ACTIVE reference, if there is one. -/
def State.activePort (s : State) : Option (Fin 4) := (List.finRange 4).find? fun p => s.refs[p].state = .active

/-- The ports whose disputed standing is set. -/
def State.disputedPorts (s : State) : List (Fin 4) := (List.finRange 4).filter fun p => s.refs[p].disputed

/-- The active port as the reports give it: absent in UNSET and HOLDOVER (R19, R61). -/
def State.reportedPort (s : State) : Option (Fin 4) :=
  match s.ts.state with
  | .unset => none
  | .holdover => none
  | .acquiring => s.activePort
  | .locked => s.activePort

/-- a_ms for instant `t`, absent out of service (R61). -/
def State.reportedAge (t : Nat) (s : State) : Option Nat :=
  if s.inService then s.ts.lastMark.map fun m => ageMs t m.2 else none

/-- TRACE_REPORT (R61): U for the request's instant, DG evaluated with it, and the report as it stands then. The instant also
stands as the interval's end time (assumption 13). -/
def traceReportBlock : Block := fun _ at_ _ s =>
  let s' := s.evaluate at_
  (s', .done (.traceReport
    { state := s'.ts.state, activePort := s'.reportedPort, dg := s'.trace.dg, u := s.bound at_, slewNs := s'.ts.slewNs
      rate := s'.ts.rate, ageMs := s'.reportedAge at_, rateHeld := s'.ts.rateHeld, disputed := s'.disputedPorts
      timescale := s'.ts.settings, settings := s'.trace.settings, interval := s'.trace.interval, endTime := at_ }))

def execTraceReport (dt : Nat) (src : Source) (s : State) : Out :=
  s.atEvent dt (takeRequest .traceReport src traceReportBlock)

/-- CLOSE_INTERVAL (R60): the interval is returned, and a new one starts at the exchange time of the taking. -/
def closeIntervalBlock : Block := fun _ _ _ s =>
  ({ s with trace := { s.trace with interval := .fresh s.now } }, .done (.interval s.trace.interval s.now))

def execCloseInterval (dt : Nat) (src : Source) (s : State) : Out :=
  s.atEvent dt (takeRequest .closeInterval src closeIntervalBlock)

/-- The settings a SET_TRACE carries (11.3). -/
def decodeTraceSettings (b : List Byte) : TraceSettings :=
  { w := field 0 4 b, q := field 4 4 b, gA := field 8 4 b, gB := field 12 4 b, gC := field 16 4 b }

/-- The ranges of 3.7, and the thresholds strictly increasing (R62). -/
def TraceSettings.ok (t : TraceSettings) : Bool :=
  decide (t.w ≤ 10000000) && decide (t.q ≤ 1000000) && decide (1 ≤ t.gA) && decide (t.gA < t.gB) && decide (t.gB < t.gC)
    && decide (t.gC ≤ 4000000000)

/-- SET_TRACE (R62). -/
def setTraceBlock : Block := fun _ _ b s =>
  let t := decodeTraceSettings b
  if t.ok then
    let s' := { s with trace := { s.trace with settings := t } }.evaluate s.now
    (s', .done (.trace t s'.trace.dg))
  else refuse .range s

def execSetTrace (dt : Nat) (src : Source) (s : State) : Out := s.atEvent dt (takeRequest .setTrace src setTraceBlock)

end Sys2Proof.Machine
end

