-- ==== Sys2Proof/Machine/CallTiming.lean ====
section
/-! DEFINITION. Closing-call timing (chapter 8): the four expiries, the end draw, the taking of the end, bringing a call up to
an instant, and EXTEND. -/

namespace Sys2Proof.Machine

/-! ### The end draw and the opening of the window (R133, R136) -/

/-- The window offset of a draw, in µs (R133). -/
def windowOffset (draw : BitVec 32) (wr : Nat) : Nat := draw.toNat * wr / 2 ^ 32

/-- The end a draw gives from an instant, in ns (R136, R139). -/
def drawnEnd (from_ : Nat) (draw : BitVec 32) (wr : Nat) : Nat := from_ + windowOffset draw wr * 1000

/-- The record of a call whose window opens with a draw (R136). -/
def Call.windowed (draw : BitVec 32) (c : Call) : Call :=
  { c with phase := .window, tEnd := some (drawnEnd c.tSched draw c.wr), draw := some draw }

/-- The value of the draw that is made now (R133): a free value, fresh at each draw (assumption 7). -/
def State.draw (s : State) : BitVec 32 := Config.endDraw s.drawCount

/-- A draw has been made. -/
def State.countDraw (s : State) : State := { s with drawCount := s.drawCount + 1 }

/-- The window of a call in CALL opens (R136). -/
def State.openWindow (i : Fin 64) (c : Call) (s : State) : State := s.countDraw.commit i (c.windowed s.draw)

/-! ### Taking the end (R142 to R145) -/

/-- The end evaluation lets the call close: the grade meets the required grade, or the holds are spent (R143). -/
def Call.closes (dg : Grade) (c : Call) : Bool := dg.meets c.required || decide (c.holdMax ≤ c.holdsUsed)

/-- The record in SETTLING, with its close grade and untraced flag (R143). -/
def Call.settled (dg : Grade) (c : Call) : Call :=
  { c with phase := .settling, closeGrade := some dg, untracedFlag := some (!dg.meets c.required) }

/-- The record in TRACE_HOLD, its end moved by one hold step from the end just taken (R143). -/
def Call.heldOn (c : Call) : Call :=
  { c with phase := .traceHold, tEnd := c.tEnd.map fun t => t + c.holdStep * 1000000, holdsUsed := c.holdsUsed + 1 }

/-- The end evaluation with grade `dg` (R143). -/
def State.closeOrHold (i : Fin 64) (c : Call) (dg : Grade) (s : State) : State :=
  if c.closes dg then
    if dg.meets c.required then s.commit i (c.settled dg) else (s.commit i (c.settled dg)).raise .auctionClosedUntraced
  else (s.commit i c.heldOn).raise .auctionTraceHold

/-- The end of a call is taken: DG is evaluated at the exchange time of the event (R56, R143). -/
def State.takeEnd (i : Fin 64) (c : Call) (s : State) : State :=
  let s' := s.evaluate s.now
  s'.closeOrHold i c s'.trace.dg

/-- An end stands that an instant has reached (R91, R137). -/
def Call.endReached (t : Nat) (c : Call) : Bool := c.phase.endPending && c.tEnd.any fun e => decide (e ≤ t)

/-- The end is taken, and taken again at each held end that instant `t` has reached, at most `n` times (R91, R137). -/
def State.takeEnds (i : Fin 64) (t : Nat) : Nat → State → State
  | 0, s => s
  | n + 1, s =>
    match s.slots[i] with
    | some c => if c.endReached t then State.takeEnds i t n (s.takeEnd i c) else s
    | none => s

/-- One more than the holds a call has left: no call's end is taken more often (R91, R143). -/
def State.takingsLeft (i : Fin 64) (s : State) : Nat := s.slots[i].elim 0 fun c => c.holdMax - c.holdsUsed + 1

/-- The window of a call in CALL opens where instant `t` has reached T_sched (R91, R137). -/
def State.openWindowBy (i : Fin 64) (t : Nat) (s : State) : State :=
  match s.slots[i] with
  | some c => if c.phase = .call ∧ c.tSched ≤ t then s.openWindow i c else s
  | none => s

/-- The call in slot `i` is brought up to instant `t`: its window opened, its end taken (R91, R137). -/
def State.bringUp (i : Fin 64) (t : Nat) (s : State) : State :=
  let s' := s.openWindowBy i t
  s'.takeEnds i t (s'.takingsLeft i)

/-! ### The expiries (R132, R134 to R136, R142, R146) -/

/-- A due entry's event acts on the record of its slot; an entry that is not due does not come due (R132; assumption 2). -/
def State.onDue (i : Fin 64) (act : Call → State → State) (s : State) : State :=
  match s.slots[i] with
  | some c => if s.entryDue i then act c s else s
  | none => s

/-- The open expiry (R134, R135). -/
def State.openCall (i : Fin 64) (c : Call) (s : State) : State :=
  if s.inService then s.commit i { c with phase := .call }
  else (s.commit i (c.cancelledBy .missedOpen)).raise .auctionMissedOpen

def execOpenExpiry (dt : Nat) (i : Fin 64) (s : State) : Out :=
  s.atEvent dt (State.onDue i fun c s => if c.phase = .scheduled then s.openCall i c else s)

def execWindowExpiry (dt : Nat) (i : Fin 64) (s : State) : Out :=
  s.atEvent dt (State.onDue i fun c s => if c.phase = .call then s.openWindow i c else s)

def execEndExpiry (dt : Nat) (i : Fin 64) (s : State) : Out :=
  s.atEvent dt (State.onDue i fun c s => if c.phase.endPending then s.takeEnd i c else s)

/-- The settle expiry: UNCROSS_DUE, the PHASE_NOTICE first and then the CLOSE_NOTICE (R146). -/
def State.settleCall (i : Fin 64) (c : Call) (s : State) : State :=
  let c' := { c with phase := .uncrossDue }
  (s.commit i c').handNotice c.notices (c'.revised.closeNotice i)

def execSettleExpiry (dt : Nat) (i : Fin 64) (s : State) : Out :=
  s.atEvent dt (State.onDue i fun c s => if c.phase = .settling then s.settleCall i c else s)

/-! ### EXTEND (R137 to R140) -/

/-- A length, in ms, held to a record's limits (R137). -/
def Call.heldLength (carried : Nat) (c : Call) : Nat :=
  if carried < c.extMin then c.extMin else if c.extMax < carried then c.extMax else carried

/-- The DONE reply to an EXTEND; HELD where the length applied is not the one carried (R140). -/
def extendDone (i : Fin 64) (c : Call) (carried applied : Nat) : Answer :=
  { code := .done, ind := { Indications.clear with held := decide (applied ≠ carried) }
    body := .extended { slot := i, revision := c.revision, phase := c.phase, tSched := c.tSched, extUsed := c.extUsed
                        extCap := c.extCap, applied } }

/-- A refused EXTEND after resolution: it carries the slot and the revision, and LATE for TOO_LATE (R140). -/
def extendRefused (code : Code) (i : Fin 64) (revision : BitVec 16) : Answer :=
  { code, ind := { Indications.clear with late := decide (code = .tooLate) }, body := .slotRevision i revision }

/-- The record of a call extended in CALL (R138). -/
def Call.extendedInCall (applied : Nat) (c : Call) : Call :=
  { c with tSched := c.tSched + applied * 1000000, extUsed := c.extUsed + 1 }

/-- The record of a call extended in its window, with a fresh draw: the end is never brought earlier (R139). -/
def Call.extendedInWindow (arrival applied : Nat) (draw : BitVec 32) (c : Call) : Call :=
  let sched := arrival + applied * 1000000
  { c with
    phase := .extended, tSched := sched, extUsed := c.extUsed + 1, draw := some draw
    tEnd := some (max (c.tEnd.getD 0) (drawnEnd sched draw c.wr)) }

/-- A carried-out stage of an EXTEND, and its reply. -/
def State.extendTo (i : Fin 64) (c : Call) (carried applied : Nat) (s : State) : State × Answer :=
  (s.commit i c, extendDone i c.revised carried applied)

/-- The judgement of an EXTEND against the phase the second stage left (R138 to R140). -/
def State.judgeExtend (i : Fin 64) (arrival carried applied : Nat) (c : Call) (s : State) : State × Answer :=
  match c.phase with
  | .call =>
    if c.extCap ≤ c.extUsed then (s, extendRefused .limit i c.revision)
    else s.extendTo i (c.extendedInCall applied) carried applied
  | .window | .extended =>
    if c.extCap ≤ c.extUsed then (s, extendRefused .limit i c.revision)
    else s.countDraw.extendTo i (c.extendedInWindow arrival applied s.draw) carried applied
  | .traceHold => (s, extendRefused .callHeld i c.revision)
  | .settling | .uncrossDue => (s, extendRefused .tooLate i c.revision)
  | .scheduled | .cancelled => (s, extendRefused .wrongPhase i c.revision)

/-- EXTEND (R137): the length is held, the call brought up to the arrival, and the request judged. -/
def extendBlock : Block := fun p arrival b =>
  addressed 0 p b fun i s =>
    match s.slots[i] with
    | none => (s, extendRefused .wrongPhase i 0)
    | some c =>
      let s' := s.bringUp i arrival
      match s'.slots[i] with
      | none => (s', extendRefused .wrongPhase i 0)
      | some c' => s'.judgeExtend i arrival (field 3 4 b) (c.heldLength (field 3 4 b)) c'

def execExtend (dt : Nat) (src : Source) (s : State) : Out := s.atEvent dt (takeRequest .extend src extendBlock)

end Sys2Proof.Machine
end

