-- ==== Sys2Proof/Machine/Dating.lean ====
section
/-! DEFINITION. Order dating (chapter 5): STAMP, STAMP_KEYED and READ_TIME. -/

namespace Sys2Proof.Machine

/-! ### Forming the stamp (R84 to R88) -/

/-- The stamp time: the first form raised by the per-lane monotone clamp (R85). -/
def clampStamp (last : Option Nat) (t0 : Nat) : Nat :=
  match last with
  | some x => if t0 ≤ x then x + 1 else t0
  | none => t0

/-- No greater stamp can be formed on the lane: its last stamp is the largest exchange time (R85). -/
def Lane.stampsSpent (n : Lane) : Bool := n.lastStamp.any fun x => decide (maxNs ≤ x)

/-- What the dating logic forms from the arrival latch and a lane whose window has been aged: the first form with the zero
clamp, the stamp time, and the sequence (R84 to R86). -/
structure Dated where
  t0 : Nat
  t : Nat
  sequence : BitVec 32
  deriving DecidableEq, Repr

/-- The stamp of an arrival latch on a lane (R84 to R86). -/
def Lane.date (tArr : Nat) (n : Lane) : Dated :=
  { t0 := tArr - n.derived.c, t := clampStamp n.lastStamp (tArr - n.derived.c), sequence := n.sequence + 1 }

/-- The lane with the stamp issued (R86). -/
def Lane.issue (d : Dated) (n : Lane) : Lane := { n with sequence := d.sequence, lastStamp := some d.t }

/-- The stamp bound B: U, the lane's uncertainty and the clamp shift, held (R54, R87). -/
def stampBound (u : Nat) (n : Lane) (d : Dated) : Nat := min cap32 (u + n.derived.u + (d.t - d.t0))

/-- HELD: the zero clamp or the monotone clamp acted, or the lane's over-cap flag is set (R87). -/
def stampHeld (tArr : Nat) (n : Lane) (d : Dated) : Bool :=
  decide (tArr < n.derived.c) || decide (d.t ≠ d.t0) || n.derived.overCap

/-- The dating of a stamp on lane `l`, up to its auction part: the state it leaves, what the reply carries of it, and the
indications with LATE clear (R83 to R88). -/
def State.dateStamp (l : Fin 16) (tArr : Nat) (s : State) : State × StampReport × Indications :=
  let s1 := s.ageLane l
  let n := s1.lanes[l]
  let d := n.date tArr
  let s2 := s1.onLane l (Lane.issue d)
  let s3 := s2.evaluate tArr
  let b := stampBound (s2.bound tArr) n d
  let g := stampGrade s3.trace.settings s3.trace.dg b
  (s3.countStamp g, { lane := l, sequence := d.sequence, time := d.t, bound := b, grade := g },
    { late := false, held := stampHeld tArr n d, degraded := !g.meets n.settings.required, wrap := d.sequence == 0 })

/-- STAMP (R83, R88). Where no greater stamp can be formed it is refused with no effect (R85; assumption 12). -/
def stampBlock : Block := fun p tArr _ s =>
  match p with
  | .lane l =>
    if s.lanes[l].stampsSpent then refuse .range s
    else ((s.dateStamp l tArr).1, { code := .done, ind := (s.dateStamp l tArr).2.2, body := .stamp (s.dateStamp l tArr).2.1 })
  | .ops => refuse .noRight s

def execStamp (dt : Nat) (src : Source) (s : State) : Out := s.atEvent dt (takeRequest .stamp src stampBlock)

/-! ### The ruling (R91 to R95) -/

/-- The stamp time lies before the call's end. -/
def Call.beforeEnd (t : Nat) (c : Call) : Bool := c.tEnd.any fun e => decide (t < e)

/-- The ruling of a stamp time against a record brought up to it (R92). -/
def Call.rule (t : Nat) (c : Call) : Ruling :=
  match c.phase with
  | .scheduled => .preCall
  | .cancelled => .cancelled
  | .call | .window | .extended | .traceHold => if t < c.tOpen then .preCall else .inCall
  | .settling => if t < c.tOpen then .preCall else if c.beforeEnd t then .inCall else .late
  | .uncrossDue => if t < c.tOpen then .preCall else .late

/-- The record with the ruling counted (R92, R93). -/
def Call.counted (t : Nat) (c : Call) : Call :=
  match c.rule t with
  | .inCall => { c with inCall := satInc cap32 c.inCall, latestIn := some (max (c.latestIn.getD 0) t) }
  | .late =>
    if c.phase = .uncrossDue ∧ c.beforeEnd t then { c with stragglers := satInc cap32 c.stragglers }
    else { c with late := satInc cap32 c.late }
  | .preCall => c
  | .cancelled => c
  | .none => c

/-- The auction part of a keyed stamp whose key holds slot `i`: the call is brought up to t, the stamp ruled against it and
counted (R91 to R95). -/
def State.ruleStamp (i : Fin 64) (t : Nat) (s : State) : State × Option RulingReport :=
  let s' := s.bringUp i t
  match s'.slots[i] with
  | some c => (s'.putCall i (c.counted t), some { slot := i, revision := c.revision, ruling := c.rule t })
  | none => (s', none)

/-- The auction part of a keyed stamp: the key is looked up as the map stands, and ruling NONE is given where it is unmapped (R90). -/
def State.ruleKey (k t : Nat) (s : State) : State × Option RulingReport :=
  match mapLookup k s.groupMap with
  | some i => s.ruleStamp i t
  | none => (s, none)

/-- The ruling is LATE (R92). -/
def ruledLate (r : Option RulingReport) : Bool := r.any fun x => x.ruling == .late

/-- STAMP_KEYED (R90). -/
def stampKeyedBlock : Block := fun p tArr b s =>
  match p with
  | .lane l =>
    if 4095 < field 0 2 b then refuse .range s
    else if s.lanes[l].stampsSpent then refuse .range s
    else
      let d := s.dateStamp l tArr
      let r := d.1.ruleKey (field 0 2 b) d.2.1.time
      (r.1, { code := .done, ind := { d.2.2 with late := ruledLate r.2 }, body := .stampKeyed d.2.1 r.2 })
  | .ops => refuse .noRight s

def execStampKeyed (dt : Nat) (src : Source) (s : State) : Out :=
  s.atEvent dt (takeRequest .stampKeyed src stampKeyedBlock)

/-! ### READ_TIME (R89) -/

def readTimeBlock : Block := fun _ instant _ s =>
  (s.evaluate instant, .done (.time instant (s.bound instant) (s.evaluate instant).trace.dg))

def execReadTime (dt : Nat) (src : Source) (s : State) : Out := s.atEvent dt (takeRequest .readTime src readTimeBlock)

end Sys2Proof.Machine
end

