-- ==== Sys2Proof/Machine/OpsRequests.lean ====
section
/-! DEFINITION. The operations port (chapter 9) and the requests on what it holds, with the retained domain's requests
(chapter 10). -/

namespace Sys2Proof.Machine

/-! ### Transactions (R152, R154) -/

/-- OPS_WRITE_DISCARDED (R152): a WRITE whose bytes hold no whole frame with a good check is discarded; a reply held is kept. -/
def writeDiscarded (bytes : List Byte) (s : State) : State :=
  match parseFrame bytes with
  | none => if s.ops.spi = some writeByte then { s with ops := s.ops.endWrite .discarded } else s
  | some _ => s

def execOpsWriteDiscarded (dt : Nat) (bytes : List Byte) (s : State) : Out := s.atEvent dt (writeDiscarded bytes)

/-- OPS_WRITE_BUSY (R152): a whole frame with a good check while a reply is held is refused BUSY and not taken. -/
def writeBusy (bytes : List Byte) (s : State) : State :=
  match parseFrame bytes, s.ops.reply with
  | some _, some _ => if s.ops.spi = some writeByte then { s with ops := s.ops.endWrite .busy } else s
  | _, _ => s

def execOpsWriteBusy (dt : Nat) (bytes : List Byte) (s : State) : Out := s.atEvent dt (writeBusy bytes)

/-- The first byte of a transaction: the status byte, as it stands, is shifted out against it, and nothing else changes (R151, R159). -/
def OpsPort.beginTransaction (status first : Byte) (o : OpsPort) : OpsPort :=
  { o with spi := some first, shiftOut := [status] }

/-- The transaction in progress is released after `bytes` were shifted out behind its status byte. -/
def OpsPort.release (bytes : List Byte) (o : OpsPort) : OpsPort := { o with spi := none, shiftOut := o.shiftOut ++ bytes }

/-- The bytes shifted out past a held reply's last byte (assumption 20). -/
def pastReplyBytes (n : Nat) : List Byte := (List.range n).map Config.pastReply

/-- The release of a READ (R154): after the held reply's last byte the reply has been read and the buffer is emptied; before it the
reply stays, unread and whole. In EMPTY bytes of 0 are shifted out, and nothing changes (11.7). -/
def OpsPort.endRead (part : OpsTransfer) (o : OpsPort) : OpsPort :=
  match o.reply, part with
  | some r, .complete => { o.release r.bytes with reply := none }
  | some r, .released n =>
    if r.bytes.length ≤ n then { o.release (r.bytes ++ pastReplyBytes (n - r.bytes.length)) with reply := none }
    else o.release (r.bytes.take n)
  | none, .released n => o.release (List.replicate n 0)
  | none, .complete => o
  | _, .begins _ => o

/-- OPS_READ (R151, R154): the first byte of a transaction, or the release of a READ. The release of any other transaction is
no READ's; one whose first byte is neither WRITE nor READ is over with its status byte. -/
def opsTransfer (part : OpsTransfer) (s : State) : State :=
  match part with
  | .begins first => { s with ops := s.ops.beginTransaction s.statusByte first }
  | .complete | .released _ => if s.ops.spi = some readByte then { s with ops := s.ops.endRead part } else s

def execOpsRead (dt : Nat) (part : OpsTransfer) (s : State) : Out := s.atEvent dt (opsTransfer part)

/-! ### Device limits (R156) -/

/-- The limits a SET_DEVICE_LIMITS carries, in their ranges (9.4, 11.3); none where one is not, or the revertive flag's code
has no meaning (R168). -/
def decodeLimits (b : List Byte) : Option DeviceLimits :=
  match decodeFlag (field 16 1 b) with
  | some revertive =>
    let d : DeviceLimits :=
      { cmax := field 0 4 b, settleGuard := field 4 4 b, acceptLimit := field 8 4 b, crossLimit := field 12 4 b, revertive }
    if inRange 0 1000000 d.cmax ∧ inRange 1000 10000000 d.settleGuard ∧ inRange 1000 1000000 d.acceptLimit
        ∧ inRange 100 1000000 d.crossLimit
    then some d else none
  | none => none

/-- Cmax or the settle guard would change (R156). -/
def DeviceLimits.movesSettle (held new : DeviceLimits) : Bool :=
  new.cmax != held.cmax || new.settleGuard != held.settleGuard

/-- SET_DEVICE_LIMITS (R156). -/
def setDeviceLimitsBlock : Block := fun _ _ b s =>
  match decodeLimits b with
  | none => refuse .range s
  | some d =>
    if s.ops.limits.movesSettle d && s.anyLive then refuse .wrongPhase s
    else ({ s with ops := { s.ops with limits := d } }, .done (.limits d))

def execSetDeviceLimits (dt : Nat) (src : Source) (s : State) : Out :=
  s.atEvent dt (takeRequest .setDeviceLimits src setDeviceLimitsBlock)

/-! ### Alerts (R160, R161) -/

/-- READ_ALERTS (R160): the set is returned, and emptied at the same event. -/
def readAlertsBlock : Block := fun _ _ _ s => ({ s with ops := { s.ops with alerts := 0 } }, .done (.alerts s.ops.alerts))

def execReadAlerts (dt : Nat) (src : Source) (s : State) : Out :=
  s.atEvent dt (takeRequest .readAlerts src readAlertsBlock)

/-- SET_ALERT_MASK (R161): bits above bit 12 name no flag (R168). -/
def setAlertMaskBlock : Block := fun _ _ b s =>
  if 8191 < field 0 2 b then refuse .range s
  else
    ({ s with ops := { s.ops with mask := BitVec.ofNat 13 (field 0 2 b) } }, .done (.mask (BitVec.ofNat 13 (field 0 2 b))))

def execSetAlertMask (dt : Nat) (src : Source) (s : State) : Out :=
  s.atEvent dt (takeRequest .setAlertMask src setAlertMaskBlock)

/-! ### The retained domain (R164, R165) -/

/-- RETAINED_ENABLE (R164): disable 0, enable 1 (11.3). -/
def retainedEnableBlock : Block := fun _ _ b s =>
  match decodeFlag (field 0 1 b) with
  | none => refuse .range s
  | some on => ({ s with retained := { s.retained with writeEnable := on } }, .done (.writeEnable on))

def execRetainedEnable (dt : Nat) (src : Source) (s : State) : Out :=
  s.atEvent dt (takeRequest .retainedEnable src retainedEnableBlock)

/-- RETAINED_READ (R164). -/
def retainedReadBlock : Block := fun _ _ _ s => (s, .done (.retained s.retained))

def execRetainedRead (dt : Nat) (src : Source) (s : State) : Out :=
  s.atEvent dt (takeRequest .retainedRead src retainedReadBlock)

/-- The write of a RETAINED_WRITE: rate 0, which writes the signed rate and sets valid, or clear 1 (R165, 11.3). -/
def State.writeRetained (clear : Bool) (rate : Int) (s : State) : State × Answer :=
  let r := if clear then { s.retained with valid := false, savedRate := 0 } else { s.retained with valid := true, savedRate := rate }
  ({ s with retained := r }, .done (.savedRate r.valid r.savedRate))

/-- RETAINED_WRITE (R165). The four rate bytes that come with the clear choice are not read, and not held against the range: the
spec leaves that open, and it is the model's choice (DESIGN CHOICE, assumption 31). -/
def retainedWriteBlock : Block := fun _ _ b s =>
  let rate := signed 4 (field 1 4 b)
  match decodeFlag (field 0 1 b) with
  | none => refuse .range s
  | some clear =>
    if !s.retained.writeEnable then refuse .wrongState s
    else if !clear && decide (500000000 < rate.natAbs) then refuse .range s
    else s.writeRetained clear rate

def execRetainedWrite (dt : Nat) (src : Source) (s : State) : Out :=
  s.atEvent dt (takeRequest .retainedWrite src retainedWriteBlock)

end Sys2Proof.Machine
end

