-- ==== Sys2Proof/Machine/PowerReset.lean ====
section
/-! DEFINITION. Power and reset (chapter 10): the three ways a run begins and the two losses of supply. -/

namespace Sys2Proof.Machine

/-- The new run: every block takes its reset values, the retained domain records the cause, and the warm start is made from
the domain (R6, R162, R163). The queue of commands and the draws already made are not the blocks' and stay. -/
def State.beginRun (cause : ResetCause) (s : State) : State :=
  { State.blocksAtReset (s.retained.record cause) s with power := .running }

/-- POWER_ON (R162): the rise of main power holds the part at reset. The blocks' values are not seen until the run begins. The
spec gives no event at which a backup supply that was lost returns: the model takes it to hold again from the rise of main
power (DESIGN CHOICE, assumption 30). -/
def execPowerOn (s : State) : Out :=
  match s.power with
  | .off => .next { State.blocksAtReset s.retained s with power := .held .powerOn, backup := true }
  | .held _ => .next s
  | .running => .next s

/-- RESET_PIN_ASSERTED (R162): a running part is held at reset; an assertion while it is held extends that one reset. -/
def execResetPinAsserted (s : State) : Out :=
  match s.power with
  | .running => .next { State.blocksAtReset s.retained s with power := .held .resetPin, resetPin := true }
  | .held _ => .next { s with resetPin := true }
  | .off => .next { s with resetPin := true }

/-- RUN_START (R162): the pin is released, or power is stable with the pin released, and the run begins. -/
def execRunStart (s : State) : Out :=
  match s.power with
  | .held cause => .next { s.beginRun cause with resetPin := false }
  | .running => .next s
  | .off => .next s

/-- What the retained domain holds once main power has fallen: its contents where the backup supply holds, and nothing where that
was lost before (R163). -/
def State.onBackup (s : State) : Retained := if s.backup then s.retained else .lost

/-- Main power falls: the run ends and the retained domain passes to the backup supply (R163). What the blocks hold without power is
not seen by anything (assumption 10). -/
def State.powerFalls (s : State) : State := { State.blocksAtReset s.onBackup s with power := .off }

/-- POWER_LOSS (R163). -/
def execPowerLoss (s : State) : Out :=
  match s.power with
  | .off => .next s
  | .held _ => .next s.powerFalls
  | .running => .next s.powerFalls

/-- BACKUP_SUPPLY_LOSS (R163): with main power absent the retained domain's contents are lost; with main power present they are kept
until that falls too (assumption 18). -/
def execBackupSupplyLoss (s : State) : Out :=
  match s.power with
  | .off => .next { s with retained := .lost, backup := false }
  | .held _ => .next { s with backup := false }
  | .running => .next { s with backup := false }

/-- SYSTEM_RESET at the operations port (R167): taken as any request is, it makes a reset of cause RESET_REQUEST at its taking
and places no reply. -/
def systemResetAtOps (tag : Tag) (payload : List Byte) (s : State) : State :=
  opsWrite payload (fun s' =>
    if formOk .ops Kind.systemReset.byte payload.length then s'.beginRun .resetRequest
    else State.holdReply Kind.systemReset.byte tag (refuse .badForm s')) s

/-- On a lane SYSTEM_RESET is operations-only, and refused NO_RIGHT before any block is reached (R73, R167). -/
def systemResetBlock : Block := fun _ _ _ s => refuse .noRight s

/-- SYSTEM_RESET on its path. -/
def systemResetTaken (src : Source) (s : State) : State :=
  match src with
  | .lane l tag payload => requestEnds l Kind.systemReset.byte tag payload (laneAnswer .systemReset systemResetBlock l) s
  | .ops tag payload => systemResetAtOps tag payload s

def execSystemReset (dt : Nat) (src : Source) (s : State) : Out := s.atEvent dt (systemResetTaken src)

end Sys2Proof.Machine
end

