-- ==== Sys2Proof/Machine/Timescale.lean ====
section
/-! DEFINITION. The timescale unit (chapter 1): how a mark of the active reference is applied, and SET_TIMESCALE. -/

namespace Sys2Proof.Machine

/-! ### The parts of an application (R8 to R12, R18) -/

/-- Exchange time moved by θ and held to its range, with the fraction kept (R8). -/
def movedNs (θ : Int) (ns : Nat) : Nat := (max 0 (min (maxNs : Int) (ns + θ))).toNat

/-- The timescale unit after a step by θ for a mark latched at `tMark` (R8). -/
def Timescale.stepBy (θ : Int) (tMark uRef : Nat) (t : Timescale) : Timescale :=
  { t with ns := movedNs θ t.ns, slew := 0, anchor := none, lockCount := 0, lastMark := some (uRef, (tMark + θ).toNat) }

/-- What a step does to the trace sample: a forward step that reaches the next sample second gives one sample at the exchange
time after the step; a backward step sets the next sample second anew (R57). -/
def State.sampleAtStep (θ : Int) (s : State) : State :=
  if θ < 0 then { s with trace := { s.trace with nextSample := secondAfter s.now } }
  else if s.trace.nextSample ≤ s.now then s.sampleAt s.now
  else s

/-- A step: one event to the timescale unit, to the calibration logic of every lane (R107) and to the trace sample (R57). -/
def State.stepBy (θ : Int) (tMark uRef : Nat) (s : State) : State :=
  (({ s with ts := s.ts.stepBy θ tMark uRef }).onLanes Lane.abandonProbe).sampleAtStep θ

/-- The raw interval over which a frequency update is due: the anchor is present, of this port, and at least 0.1 s old (R9). -/
def updateInterval (p : Fin 4) (rawMark : Nat) (anchor : Option (Fin 4 × Nat)) : Option Nat :=
  match anchor with
  | some (q, raw) => if q = p ∧ 100000000 ≤ rawMark - raw then some (rawMark - raw) else none
  | none => none

/-- The update f, its product carried in full and truncated toward zero (R9). -/
def frequencyStep (θ : Int) (interval gainShift : Nat) : Int :=
  (θ * (10 ^ 12 : Int)).tdiv ((interval : Int) * 2 ^ gainShift)

/-- The frequency update of a mark, where one is due (R4, R9). -/
def Timescale.updateRate (θ : Int) (p : Fin 4) (rawMark : Nat) (t : Timescale) : Timescale :=
  match updateInterval p rawMark t.anchor with
  | some d =>
    let r := t.rate + frequencyStep θ d t.settings.gainShift
    { t with rate := holdRate t.settings.rateLimit r, rateHeld := decide (holdRate t.settings.rateLimit r ≠ r) }
  | none => t

/-- The phase replacement of a mark (R10). -/
def Timescale.replacePhase (θ : Int) (p : Fin 4) (m : Mark) (t : Timescale) : Timescale :=
  { t with slew := θ * unit, anchor := some (p, m.rawMark), lastMark := some (m.uRef, m.tMark) }

/-- Frequency update, then phase replacement (R10). -/
def Timescale.slewTo (θ : Int) (p : Fin 4) (m : Mark) (t : Timescale) : Timescale :=
  (t.updateRate θ p m.rawMark).replacePhase θ p m

/-- The lock count after an applied mark that is not a step (R12). -/
def countLock (limit : Nat) (θ : Int) (n : Nat) : Nat := if θ.natAbs ≤ limit then min 32 (n + 1) else 0

/-- r is written into the retained domain and the valid flag set (R18). -/
def State.saveRate (s : State) : State :=
  { s with retained := { s.retained with savedRate := s.ts.rate, valid := true } }

/-- The application of a mark in LOCKED: no step, however large θ (R11). -/
def State.applyLocked (p : Fin 4) (m : Mark) (θ : Int) (s : State) : State :=
  State.saveRate { s with ts := s.ts.slewTo θ p m }

/-- The lock: the timescale enters service at this mark (R12, R18, R53). -/
def State.lock (s : State) : State :=
  let s := { s with ts := { s.ts with lockCount := 0 } }
  ((s.saveRate).raise .serviceEntered).changeState .locked

/-- The application of a mark in ACQUIRING: a step beyond the step threshold, else update and slew, and the lock test (R8 to R12). -/
def State.applyAcquiring (p : Fin 4) (m : Mark) (θ : Int) (s : State) : State :=
  if s.ts.settings.stepThreshold < θ.natAbs then s.stepBy θ m.tMark m.uRef
  else
    let t := s.ts.slewTo θ p m
    let s' := { s with ts := { t with lockCount := countLock t.settings.lockLimit θ t.lockCount } }
    if s'.ts.settings.lockCount ≤ s'.ts.lockCount then s'.lock else s'

/-- The application of a mark handed to the timescale unit, by its state (R7). In UNSET and HOLDOVER it receives none but the
one at which a reference becomes ACTIVE, which moves the state first (R13, R16). -/
def State.applyMark (p : Fin 4) (m : Mark) (θ : Int) (s : State) : State :=
  match s.ts.state with
  | .acquiring => s.applyAcquiring p m θ
  | .locked => s.applyLocked p m θ
  | .unset => s
  | .holdover => s

/-! ### What a change or a loss of the active reference does (R13 to R17) -/

/-- The lock count set to 0 and the interval anchor set absent. -/
def Timescale.dropAnchor (t : Timescale) : Timescale := { t with lockCount := 0, anchor := none }

/-- The first accepted mark of the reference made ACTIVE, in UNSET (R13), in HOLDOVER (R16) or, by revertive switching, in
LOCKED (R17). In ACQUIRING none is made active at a mark (R38, R40). -/
def State.applyFirstMark (p : Fin 4) (m : Mark) (θ : Int) (s : State) : State :=
  match s.ts.state with
  | .unset => (s.changeState .acquiring).applyMark p m θ
  | .holdover =>
    let s' := ({ s with ts := { s.ts.dropAnchor with state := .locked } }).applyLocked p m θ
    s'.evaluate s'.now
  | .locked => ({ s with ts := s.ts.dropAnchor }).applyLocked p m θ
  | .acquiring => s

/-! ### SET_TIMESCALE (R21) -/

/-- The settings a SET_TIMESCALE carries (11.3). -/
def decodeTimescale (b : List Byte) : TimescaleSettings :=
  { lockCount := field 0 1 b, lockLimit := field 1 4 b, stepThreshold := field 5 4 b, rateLimit := field 9 4 b
    smax := field 13 4 b, gainShift := field 17 1 b }

/-- The ranges of 1.8. -/
def TimescaleSettings.ok (t : TimescaleSettings) : Bool :=
  inRange 1 32 t.lockCount && inRange 100 1000000 t.lockLimit && inRange 10000 1000000000 t.stepThreshold
    && inRange 1000000 500000000 t.rateLimit && inRange 1000000 500000000 t.smax && inRange 0 10 t.gainShift

/-- The settings are written; a rate beyond the new limit is held to it, and the rate-held standing is set (R4, R21). -/
def Timescale.configure (c : TimescaleSettings) (t : Timescale) : Timescale :=
  { t with settings := c, rate := holdRate c.rateLimit t.rate
           rateHeld := t.rateHeld || decide (holdRate c.rateLimit t.rate ≠ t.rate) }

/-- SET_TIMESCALE (R21); the reply carries the values written (R157). -/
def setTimescaleBlock : Block := fun _ _ b s =>
  let c := decodeTimescale b
  if c.ok then ({ s with ts := s.ts.configure c }, .done (.timescale c)) else refuse .range s

def execSetTimescale (dt : Nat) (src : Source) (s : State) : Out :=
  s.atEvent dt (takeRequest .setTimescale src setTimescaleBlock)

end Sys2Proof.Machine
end

