-- ==== Sys2Proof/Machine/Reference.lean ====
section
/-! DEFINITION. The reference unit (chapter 2, and R170): latching, decoding and pairing, the plausibility filter,
qualification and failure, selection, the agreement vote, and the requests on references. -/

namespace Sys2Proof.Machine

/-- The state with port `p`'s record changed. -/
def State.onRef (p : Fin 4) (f : RefRecord → RefRecord) (s : State) : State := { s with refs := s.refs.set p (f s.refs[p]) }

/-- Every record's disputed standing cleared (R39, R40, R41). -/
def State.clearDisputes (s : State) : State := { s with refs := s.refs.map fun r => { r with disputed := false } }

/-- QUALIFYING, READY and ACTIVE: the port latches and is timed (R22, R23, R32). -/
def RefState.watched : RefState → Bool
  | .qualifying | .ready | .active => true
  | .disabled | .failed => false

/-! ### Eligibility and the best reference (R37, 2.7) -/

/-- Port `p` is better than port `q` by (priority, port) (2.7). -/
def State.better (p q : Fin 4) (s : State) : Bool :=
  decide (s.refs[p].config.priority < s.refs[q].config.priority)
    || (s.refs[p].config.priority == s.refs[q].config.priority && decide (p < q))

/-- The θ condition of eligibility, which stands in service alone (R37). -/
def State.thetaOk (θ : Option (Int × Nat)) (s : State) : Bool :=
  !s.inService || θ.any fun x => decide (x.1.natAbs ≤ s.ops.limits.acceptLimit)

/-- The last accepted mark is at most the mark timeout old, on the raw count (R37). -/
def RefRecord.fresh (raw : Nat) (r : RefRecord) : Bool :=
  r.lastRaw.any fun x => decide (raw - x ≤ r.config.timeoutMs * 1000000)

/-- Port `p`'s reference is eligible (R37). -/
def State.eligible (p : Fin 4) (s : State) : Bool :=
  s.refs[p].state == .ready && !s.refs[p].disputed && s.refs[p].fresh s.ts.raw && s.thetaOk s.refs[p].lastTheta

/-- Port `p`'s reference is eligible at its own accepted mark, whose raw count and θ are the ones used: the mark is fresh, and
its θ has just become the record's last (R29, R37). -/
def State.eligibleAtMark (p : Fin 4) (s : State) : Bool :=
  s.refs[p].state == .ready && !s.refs[p].disputed && s.thetaOk s.refs[p].lastTheta

/-- The best by (priority, port) of the ports that meet a condition. -/
def State.best (ok : Fin 4 → Bool) (s : State) : Option (Fin 4) :=
  ((List.finRange 4).filter ok).foldl (fun acc p => match acc with
    | none => some p
    | some q => if s.better p q then some p else some q) none

/-- The reference becomes ACTIVE: ACTIVE_CHANGED is raised and one switch counted (R42). -/
def State.becomeActive (p : Fin 4) (s : State) : State :=
  ((s.onRef p fun r => { r with state := .active }).raise .activeChanged).countSwitch

/-! ### The loss of the active reference (R14, R15, R39) -/

/-- The loss, once the lost reference's own record has been changed: every disputed standing is cleared; in ACQUIRING the best
eligible reference becomes ACTIVE at once or the timescale becomes UNSET (R14); in LOCKED it becomes HOLDOVER (R15). -/
def State.loseActive (s : State) : State :=
  let s := s.clearDisputes
  match s.ts.state with
  | .acquiring =>
    let s' := { s with ts := s.ts.dropAnchor }
    match s'.best fun p => s'.eligible p with
    | some p => s'.becomeActive p
    | none => s'.changeState .unset
  | .locked =>
    let s' := { s with ts := s.ts.dropAnchor }
    ((s'.raise .holdoverEntered).countHoldover).changeState .holdover
  | .unset => s
  | .holdover => s

/-- A record removed by the reference unit: FAILED, its pending pulse discarded without count, a message in collection
abandoned, its silence timer stopped (R22, R26, R32, R170). -/
def RefRecord.fail (c : FailureCause) (r : RefRecord) : RefRecord :=
  { r with state := .failed, cause := some c, pulse := none, collecting := false, silence := none }

/-- A reference becomes FAILED: REFERENCE_FAILED is raised, and the loss follows where it was ACTIVE (R30, R32, R44). -/
def State.failRef (p : Fin 4) (c : FailureCause) (s : State) : State :=
  let s' := (s.onRef p (RefRecord.fail c)).raise .referenceFailed
  if s.refs[p].state = .active then s'.loseActive else s'

/-! ### Selection, revertive switching and the vote (R38, R40, R43, R44) -/

/-- Selection at an accepted mark of a READY reference, with none ACTIVE in UNSET or HOLDOVER (R38). -/
def State.select (p : Fin 4) (m : Mark) (θ : Int) (s : State) : State :=
  if s.eligibleAtMark p && !((List.finRange 4).any fun q => q != p && s.eligible q && s.better q p) then
    (s.becomeActive p).applyFirstMark p m θ
  else s

/-- The vote on a READY mark (R43): the standby's disputed standing is set or cleared, and REFERENCE_DISPUTE raised where it
passes from clear to set. -/
def State.vote (p : Fin 4) (θ : Int) (s : State) : State :=
  let d := decide (s.ops.limits.crossLimit < (θ - s.ts.slewNs).natAbs)
  let s' := s.onRef p fun r => { r with disputed := d }
  if d && !s.refs[p].disputed then s'.raise .referenceDispute else s'

/-- The READY references that are disputed. -/
def State.disputers (s : State) : List (Fin 4) :=
  (List.finRange 4).filter fun p => s.refs[p].state == .ready && s.refs[p].disputed

/-- Two references agree within the cross limit, by their last θ (R44). -/
def State.agree (p q : Fin 4) (s : State) : Bool :=
  match s.refs[p].lastTheta, s.refs[q].lastTheta with
  | some a, some b => decide ((a.1 - b.1).natAbs ≤ s.ops.limits.crossLimit)
  | _, _ => false

/-- The active reference is outvoted: two or more READY references are disputed, and every pair of them agrees (R44). -/
def State.outvoted (s : State) : Bool :=
  decide (2 ≤ s.disputers.length) && s.disputers.all fun p => s.disputers.all fun q => s.agree p q

/-- Revertive switching at a READY mark in LOCKED (R40). -/
def State.revert (p old : Fin 4) (m : Mark) (θ : Int) (s : State) : State :=
  if s.ops.limits.revertive && s.ts.state == .locked && s.better p old && s.eligibleAtMark p then
    (((s.onRef old fun r => { r with state := .ready }).clearDisputes).becomeActive p).applyFirstMark p m θ
  else s

/-- A READY mark in service with an ACTIVE reference: the vote, the outvote test, then the revertive test (R45). -/
def State.voteMark (p active : Fin 4) (m : Mark) (θ : Int) (s : State) : State :=
  let s' := s.vote p θ
  if s'.outvoted then s'.failRef active .outvoted else s'.revert p active m θ

/-- Where an accepted mark goes, by the state of its reference (R45). -/
def State.passOn (p : Fin 4) (m : Mark) (θ : Int) (s : State) : State :=
  match s.refs[p].state with
  | .active => s.applyMark p m θ
  | .ready =>
    match s.activePort with
    | some a => if s.inService then s.voteMark p a m θ else s
    | none => if s.ts.state = .unset ∨ s.ts.state = .holdover then s.select p m θ else s
  | .qualifying => s
  | .disabled => s
  | .failed => s

/-! ### The plausibility filter (R28 to R31) -/

/-- The φ predicted from the reference's own history; none where there is none (R28). -/
def RefRecord.predictedPhi (rate : Int) (rawMark : Nat) (r : RefRecord) : Option Int :=
  match r.lastPhi, r.lastRaw with
  | some phi, some raw => some (phi + (((rawMark : Int) - raw) * rate).tdiv (10 ^ 12))
  | _, _ => none

/-- A mark is plausible: it has no prediction, or departs from it by at most M (R28). -/
def RefRecord.plausible (rate : Int) (rawMark : Nat) (phi : Int) (r : RefRecord) : Bool :=
  match r.predictedPhi rate rawMark with
  | some f => decide ((phi - f).natAbs ≤ r.config.maxChange)
  | none => true

/-- φ of a mark (R28). -/
def Mark.phi (m : Mark) : Int := (m.tRef : Int) - m.rawMark

/-- θ of a mark at a port with cable delay `d` (R7, R29). -/
def Mark.theta (d : Nat) (m : Mark) : Int := (m.tRef + d : Int) - m.tMark

/-- The record after an accepted mark, with qualification tested (R29, R31). -/
def RefRecord.accept (m : Mark) (r : RefRecord) : RefRecord :=
  let good := min 64 (r.good + 1)
  { r with
    lastPhi := some m.phi, lastRaw := some m.rawMark, lastTheta := some (m.theta r.config.delay, m.tMark)
    rejects := 0, good := good
    counts := { r.counts with accepted := satInc cap16 r.counts.accepted }
    state := if r.state = .qualifying ∧ good = r.config.qualify then .ready else r.state }

/-- An accepted mark, end to end (R45). -/
def State.acceptMark (p : Fin 4) (m : Mark) (s : State) : State :=
  (s.onRef p (RefRecord.accept m)).passOn p m (m.theta s.refs[p].config.delay)

/-- A re-anchored record, back in QUALIFYING: the K-th rejection's own φ and raw count where it was implausible (R30). -/
def RefRecord.reanchor (anchor : Option Mark) (r : RefRecord) : RefRecord :=
  { r with
    state := .qualifying, rejects := 0
    lastPhi := anchor.elim r.lastPhi fun m => some m.phi
    lastRaw := anchor.elim r.lastRaw fun m => some m.rawMark }

/-- A rejection's counts: consecutive good 0, consecutive rejects increased by 1 (R30). -/
def RefRecord.reject (r : RefRecord) : RefRecord := { r with good := 0, rejects := r.rejects + 1 }

/-- A rejection (R30): implausible, with its mark, or a code error, with none. -/
def State.rejectMark (p : Fin 4) (mark : Option Mark) (s : State) : State :=
  let s' := s.onRef p RefRecord.reject
  if s'.refs[p].rejects < s'.refs[p].config.rejectLimit then s'
  else if s'.refs[p].state = .active then
    s'.failRef p (mark.elim .codeError fun _ => .implausible)
  else s'.onRef p (RefRecord.reanchor mark)

/-- The rejected count increased by 1. -/
def RefRecord.countRejected (r : RefRecord) : RefRecord :=
  { r with counts := { r.counts with rejected := satInc cap16 r.counts.rejected } }

/-- The code errors count and the rejected count each increased by 1 (R24, R27). -/
def RefRecord.countCodeError (r : RefRecord) : RefRecord :=
  { r with counts := { r.counts with codeErrors := satInc cap16 r.counts.codeErrors
                                     rejected := satInc cap16 r.counts.rejected } }

/-- A code error: counted, and handed to the rejection with no φ (R24, R25, R27). -/
def State.codeError (p : Fin 4) (s : State) : State := (s.onRef p RefRecord.countCodeError).rejectMark p none

/-- The filter: a mark is accepted, or rejected as implausible and counted (R28, R30). -/
def State.filterMark (p : Fin 4) (m : Mark) (s : State) : State :=
  if s.refs[p].plausible s.ts.rate m.rawMark m.phi then s.acceptMark p m
  else (s.onRef p RefRecord.countRejected).rejectMark p (some m)

/-- The largest exchange second of a mark (R25, R27). -/
def maxSecond : Int := 9223372035

/-- A mark is built from its full second count and judged; an exchange second out of range is a code error (R25, R27). -/
def State.judgeSecond (p : Fin 4) (count : Int) (tMark rawMark uRef : Nat) (s : State) : State :=
  let sec := count + s.refs[p].config.secondOffset
  if sec < 0 ∨ maxSecond < sec then s.codeError p
  else s.filterMark p { tMark, rawMark, tRef := sec.toNat * second, uRef }

/-! ### The code lines of RP0 and RP1 (R24, R25) -/

/-- Gray to binary: from the top digit down, each binary digit is the one above it exclusive-or the Gray digit (R24). -/
def grayDecode (g : Nat) : Nat → Bool → Nat → Nat
  | 0, _, acc => acc
  | k + 1, above, acc =>
    let b := above ^^ g.testBit k
    grayDecode g k b (2 * acc + b.toNat)

/-- The value v of the code lines (R24). -/
def codeValue (c : RefConfig) (lines : BitVec 48) : Nat :=
  let v := ((lines ^^^ c.inversion).toNat >>> c.lsb) % 2 ^ c.width
  match c.format with
  | .binary => v
  | .gray => grayDecode v c.width false 0

/-- The predicted second P (R25): exchange time at the pulse to the nearest second, half a second rounded up, less the offset. -/
def predictedSecond (tMark : Nat) (offset : Int) : Int := ((tMark + second / 2) / second : Nat) - offset

/-- The count congruent to v modulo 2^w nearest to P, the lower of two at equal distance (R25). -/
def nearestCount (w v : Nat) (p : Int) : Int :=
  let below := (p - v) % (2 ^ w : Int)
  if below ≤ 2 ^ w - below then p - below else p - below + 2 ^ w

/-- Width extension (R25). -/
def fullCount (c : RefConfig) (st : TimescaleState) (tMark v : Nat) : Int :=
  if 40 ≤ c.width ∨ st = .unset then v else nearestCount c.width v (predictedSecond tMark c.secondOffset)

/-- The decoding of an edge latched at RP0 or RP1 (R24, R25). -/
def State.decodeEdge (p : Fin 4) (lines : BitVec 48) (error : Bool) (s : State) : State :=
  if error then s.codeError p
  else
    s.judgeSecond p (fullCount s.refs[p].config s.ts.state s.now (codeValue s.refs[p].config lines)) s.now s.ts.raw
      s.refs[p].config.uFloor

/-! ### Pulses and announcements of RP2 and RP3 (R26, R27, R170) -/

/-- The unpaired pulses count increased by 1. -/
def RefRecord.countUnpairedPulse (r : RefRecord) : RefRecord :=
  { r with counts := { r.counts with unpairedPulses := satInc cap16 r.counts.unpairedPulses } }

/-- A pulse becomes the pending pulse; one it replaces is counted as unpaired (R26). -/
def RefRecord.pendPulse (x : PendingPulse) (r : RefRecord) : RefRecord :=
  { (if r.pulse.isSome then r.countUnpairedPulse else r) with pulse := some x }

/-- An edge on the pulse input of port `p` (R23). -/
def pulseArrives (p : Fin 4) (edge : Edge) (lines : BitVec 48) (error : Bool) (s : State) : State :=
  if s.refs[p].state.watched ∧ edge = s.refs[p].config.edge then
    let s' := s.onRef p fun r => { r with silence := some s.ts.raw }
    if isMessagePort p then s'.onRef p (RefRecord.pendPulse { tMark := s.now, rawMark := s.ts.raw })
    else s'.decodeEdge p lines error
  else s

def execPulseEdge (dt : Nat) (p : Fin 4) (edge : Edge) (lines : BitVec 48) (error : Bool) (s : State) : Out :=
  s.atEvent dt (pulseArrives p edge lines error)

/-- The check of an announcement: the frame check over its first eight characters, and no framing error (R169, R170). -/
def announcementOk (chars : List Byte) (framing : Bool) : Bool :=
  !framing && be (chars.drop 8) == (frameCheck (chars.take 8)).toNat

/-- The uncertainty of an announced mark: the quality where one is given, and not below the floor (R27). -/
def announcedU (uFloor quality : Nat) : Nat := if quality = 65535 then uFloor else max uFloor quality

/-- An announcement whose check fails, or a message cut short: the pending pulse is discarded without count, and the code
error counted and rejected (R27, R170). -/
def State.badAnnouncement (p : Fin 4) (s : State) : State := (s.onRef p fun r => { r with pulse := none }).codeError p

/-- An announcement whose check passes: it pairs with the pending pulse, or is counted as unpaired (R27). -/
def State.goodAnnouncement (p : Fin 4) (chars : List Byte) (s : State) : State :=
  match s.refs[p].pulse with
  | some x =>
    (s.onRef p fun r => { r with pulse := none }).judgeSecond p (field 0 6 chars) x.tMark x.rawMark
      (announcedU s.refs[p].config.uFloor (field 6 2 chars))
  | none =>
    s.onRef p fun r =>
      { r with counts := { r.counts with unpairedAnnouncements := satInc cap16 r.counts.unpairedAnnouncements } }

/-- The tenth character of a message: the announcement is taken, and the port waits for a break (R27, R170). -/
def announcementTaken (p : Fin 4) (chars : List Byte) (framing : Bool) (s : State) : State :=
  if isMessagePort p ∧ chars.length = 10 ∧ s.refs[p].collecting ∧ s.refs[p].state.watched then
    let s' := s.onRef p fun r => { r with collecting := false }
    if announcementOk chars framing then s'.goodAnnouncement p chars else s'.badAnnouncement p
  else s

def execAnnouncement (dt : Nat) (p : Fin 4) (chars : List Byte) (framing : Bool) (s : State) : Out :=
  s.atEvent dt (announcementTaken p chars framing)

/-- A break before the tenth character: the message in collection is taken as one whose check fails, and the break begins
the next message, unless the rejection took the reference to FAILED, where a message is abandoned (R170). -/
def cutShort (p : Fin 4) (s : State) : State :=
  if isMessagePort p ∧ s.refs[p].collecting ∧ s.refs[p].state.watched then s.badAnnouncement p else s

def execAnnouncementCutShort (dt : Nat) (p : Fin 4) (s : State) : Out := s.atEvent dt (cutShort p)

/-- A break while no message is in collection begins one; a DISABLED or FAILED port ignores it (R22, R170). -/
def breakArrives (p : Fin 4) (s : State) : State :=
  if isMessagePort p ∧ s.refs[p].state.watched then s.onRef p fun r => { r with collecting := true } else s

def execAnnouncementBreak (dt : Nat) (p : Fin 4) (s : State) : Out := s.atEvent dt (breakArrives p)

/-- The announce window of the pending pulse has run out on the raw count (R26). -/
def RefRecord.windowOver (raw : Nat) (r : RefRecord) : Bool :=
  r.pulse.any fun x => decide (r.config.windowMs * 1000000 ≤ raw - x.rawMark)

/-- ANNOUNCE_WINDOW_EXPIRY (R26): the pulse is dropped and counted as unpaired. -/
def announceWindowEnds (p : Fin 4) (s : State) : State :=
  if isMessagePort p ∧ s.refs[p].windowOver s.ts.raw then s.onRef p fun r => { r.countUnpairedPulse with pulse := none } else s

def execAnnounceWindowExpiry (dt : Nat) (p : Fin 4) (s : State) : Out := s.atEvent dt (announceWindowEnds p)

/-! ### Silence (R32) -/

/-- The silence timer has reached the mark timeout on the raw count (R32). -/
def RefRecord.silent (raw : Nat) (r : RefRecord) : Bool :=
  r.silence.any fun x => decide (r.config.timeoutMs * 1000000 ≤ raw - x)

/-- SILENCE_EXPIRY (R32). -/
def silenceEnds (p : Fin 4) (s : State) : State :=
  if s.refs[p].state.watched ∧ s.refs[p].silent s.ts.raw then s.failRef p .silent else s

def execSilenceExpiry (dt : Nat) (p : Fin 4) (s : State) : Out := s.atEvent dt (silenceEnds p)

/-! ### Requests on references (R33 to R36) -/

/-- A port number outside 0 to 3 names no record (R33 to R36). -/
def decodePort (v : Nat) : Option (Fin 4) := if h : v < 4 then some ⟨v, h⟩ else none

/-- The pulse edge codes of SET_REFERENCE (11.6). -/
def decodeEdgeCode (v : Nat) : Option Edge :=
  match v with
  | 0 => some .rising
  | 1 => some .falling
  | _ => none

/-- The code format codes (11.6). -/
def decodeFormat (v : Nat) : Option CodeFormat :=
  match v with
  | 0 => some .binary
  | 1 => some .gray
  | _ => none

/-- The configuration a SET_REFERENCE carries for port `p`, over the one held: at RP2 and RP3 the code setup bytes are not
read, at RP0 and RP1 the announce window bytes are not (11.6, R33). None where a code has no meaning (R168). -/
def decodeRefConfig (p : Fin 4) (held : RefConfig) (b : List Byte) : Option RefConfig :=
  match decodeEdgeCode (field 2 1 b), (if isMessagePort p then some held.format else decodeFormat (field 31 1 b)) with
  | some edge, some format =>
    let c : RefConfig :=
      { held with
        priority := field 1 1 b, edge := edge, delay := field 3 4 b, uFloor := field 7 4 b, maxChange := field 11 4 b
        qualify := field 15 1 b, rejectLimit := field 16 1 b, timeoutMs := field 17 2 b
        secondOffset := signed 4 (field 19 4 b) }
    if isMessagePort p then some { c with windowMs := field 32 2 b }
    else some { c with inversion := BitVec.ofNat 48 (field 23 6 b), lsb := field 29 1 b, width := field 30 1 b, format := format }
  | _, _ => none

/-- The ranges of 2.1, with p + w at most 48 (R33). The fields not read are those held, and in range already. -/
def RefConfig.ok (c : RefConfig) : Bool :=
  inRange 0 7 c.priority && inRange 0 1000000 c.delay && inRange 0 1000000 c.uFloor && inRange 100 1000000 c.maxChange
    && inRange 2 64 c.qualify && inRange 1 16 c.rejectLimit && inRange 1100 10000 c.timeoutMs
    && decide (c.secondOffset.natAbs ≤ 1000000000) && inRange 0 47 c.lsb && inRange 1 48 c.width
    && decide (c.lsb + c.width ≤ 48) && inRange 100 990 c.windowMs

/-- SET_REFERENCE (R33); the reply carries the values written (R157). -/
def setReferenceBlock : Block := fun _ _ b s =>
  match decodePort (field 0 1 b) with
  | none => refuse .range s
  | some p =>
    match decodeRefConfig p s.refs[p].config b with
    | none => refuse .range s
    | some c =>
      if s.refs[p].state ≠ .disabled then refuse .wrongState s
      else if c.ok then (s.onRef p fun r => { r with config := c }, .done (.refConfig p c))
      else refuse .range s

def execSetReference (dt : Nat) (src : Source) (s : State) : Out :=
  s.atEvent dt (takeRequest .setReference src setReferenceBlock)

/-- A record at ARM (R34, R170). -/
def RefRecord.arm (raw : Nat) (r : RefRecord) : RefRecord :=
  { r with
    state := .qualifying, cause := none, lastPhi := none, lastRaw := none, lastTheta := none, good := 0, rejects := 0
    disputed := false, pulse := none, collecting := false, silence := some raw }

/-- ARM_REFERENCE (R34). -/
def armReferenceBlock : Block := fun _ _ b s =>
  match decodePort (field 0 1 b) with
  | none => refuse .range s
  | some p =>
    if s.refs[p].state.watched then refuse .wrongState s
    else (s.onRef p (RefRecord.arm s.ts.raw), .done .empty)

def execArmReference (dt : Nat) (src : Source) (s : State) : Out :=
  s.atEvent dt (takeRequest .armReference src armReferenceBlock)

/-- A record at DISABLE: learned fields, counts and failure cause are kept, and a READY reference's disputed standing is
cleared (R35, R170). -/
def RefRecord.disable (r : RefRecord) : RefRecord :=
  { r with
    state := .disabled, pulse := none, collecting := false, silence := none
    disputed := if r.state = .ready then false else r.disputed }

/-- DISABLE_REFERENCE (R35): the loss follows where the reference was ACTIVE. -/
def disableReferenceBlock : Block := fun _ _ b s =>
  match decodePort (field 0 1 b) with
  | none => refuse .range s
  | some p =>
    let s' := s.onRef p RefRecord.disable
    (if s.refs[p].state = .active then s'.loseActive else s', .done .empty)

def execDisableReference (dt : Nat) (src : Source) (s : State) : Out :=
  s.atEvent dt (takeRequest .disableReference src disableReferenceBlock)

/-- What READ_REFERENCE reports of a record (R36). -/
def RefRecord.report (p : Fin 4) (r : RefRecord) : RefReport :=
  { port := p, state := r.state, cause := r.cause, config := r.config, lastPhi := r.lastPhi, lastRaw := r.lastRaw
    lastTheta := r.lastTheta, good := r.good, rejects := r.rejects, disputed := r.disputed, counts := r.counts
    pulsePending := r.pulse.isSome }

/-- READ_REFERENCE (R36, R157). -/
def readReferenceBlock : Block := fun _ _ b s =>
  match decodePort (field 0 1 b) with
  | none => refuse .range s
  | some p => (s, .done (.reference (s.refs[p].report p) s.ops.limits s.ts.settings))

def execReadReference (dt : Nat) (src : Source) (s : State) : Out :=
  s.atEvent dt (takeRequest .readReference src readReferenceBlock)

/-! ### RESYNC (R19, R20, R41) -/

/-- The candidates of a RESYNC: the READY references and the ACTIVE one (R41). -/
def State.resyncChoice (s : State) : Option (Fin 4) :=
  s.best fun p => s.refs[p].state == .ready || s.refs[p].state == .active

/-- The reference unit's part of an accepted RESYNC (R41): the choice becomes ACTIVE, the old active returns to READY. -/
def State.resyncSelect (s : State) : State :=
  let s' := s.clearDisputes
  match s'.resyncChoice with
  | none => s'
  | some p =>
    if s'.refs[p].state = .active then s'
    else
      match s'.activePort with
      | some old => (s'.onRef old fun r => { r with state := .ready }).becomeActive p
      | none => s'.becomeActive p

/-- An accepted RESYNC (R19): S is 0, the lock count 0, the interval anchor absent, and the state ACQUIRING, or UNSET with no
candidate; DG becomes UNTRACED. -/
def State.resyncTake (s : State) : State :=
  let st := if s.resyncChoice.isSome then .acquiring else .unset
  let s' := s.resyncSelect
  State.changeState st { s' with ts := { s'.ts.dropAnchor with slew := 0 } }

/-- RESYNC (R19, R20). -/
def resyncBlock : Block := fun _ _ _ s =>
  if !s.inService then refuse .notInService s
  else if s.anyLive then refuse .wrongPhase s
  else (s.resyncTake, .done (.resync s.resyncTake.ts.state s.resyncTake.reportedPort))

def execResync (dt : Nat) (src : Source) (s : State) : Out := s.atEvent dt (takeRequest .resync src resyncBlock)

end Sys2Proof.Machine
end

