-- ==== Sys2Proof/Machine/Frames.lean ====
section
/-! DEFINITION. The ends of frames on a lane (chapter 4): FRAME_END, which takes a request at once where the lane is not backed
up, FRAME_LEAVES, which takes a waiting one, and the requests of bad form. -/

namespace Sys2Proof.Machine

/-! ### The block that answers each kind (R71) -/

/-- The answering block of a request kind. -/
def Kind.block : Kind → Block
  | .stamp => stampBlock
  | .stampKeyed => stampKeyedBlock
  | .calibrate => calibrateBlock
  | .echo => echoBlock
  | .readTime => readTimeBlock
  | .traceReport => traceReportBlock
  | .laneStatus => laneStatusBlock
  | .queryAuction => queryAuctionBlock
  | .subscribe => membership addLane
  | .unsubscribe => membership dropLane
  | .schedule => scheduleBlock
  | .reschedule => rescheduleBlock
  | .extend => extendBlock
  | .cancel => cancelBlock
  | .retire => retireBlock
  | .mapKey => mapKeyBlock
  | .unmapKey => unmapKeyBlock
  | .setTimescale => setTimescaleBlock
  | .setReference => setReferenceBlock
  | .armReference => armReferenceBlock
  | .disableReference => disableReferenceBlock
  | .readReference => readReferenceBlock
  | .setTrace => setTraceBlock
  | .setLane => setLaneBlock
  | .setDeviceLimits => setDeviceLimitsBlock
  | .resync => resyncBlock
  | .closeInterval => closeIntervalBlock
  | .readAlerts => readAlertsBlock
  | .setAlertMask => setAlertMaskBlock
  | .retainedEnable => retainedEnableBlock
  | .retainedRead => retainedReadBlock
  | .retainedWrite => retainedWriteBlock
  | .systemReset => systemResetBlock

/-- The answer to the head of lane `l`'s queue, whatever its kind (R71, R72). -/
def headAnswer (l : Fin 16) (q : Request) (s : State) : State × Answer :=
  match Kind.ofByte q.kind with
  | some k => laneAnswer k k.block l q s
  | none => refuse .badForm s

/-! ### FRAME_END (R67 to R71) -/

/-- The end of a frame (R67 to R70): a bad one is discarded and counted, an ECHO goes to the calibration logic at this same event
(R69), and a request joins the queue and is taken at once where it can be (R70, R71; assumption 4). -/
def frameEnds (l : Fin 16) (bytes : List Byte) (lineError : Bool) (s : State) : State :=
  match s.lanes[l].up, s.lanes[l].rxLatch with
  | true, some _ =>
    match (if lineError then none else parseFrame bytes) with
    | none => s.onLane l Lane.frameError
    | some f =>
      if f.kind = Kind.echo.byte then echoEnds l f.tag f.payload s
      else requestEnds l f.kind f.tag f.payload (headAnswer l) s
  | _, _ => s

def execFrameEnd (dt : Nat) (l : Fin 16) (bytes : List Byte) (lineError : Bool) (s : State) : Out :=
  s.atEvent dt (frameEnds l bytes lineError)

/-! ### FRAME_LEAVES (R71, R78) -/

/-- The frame at the head of the transmit queue has left, and its entry is freed; where it was a reply, one waiting request is taken
at this event (R71, R78). A probe whose start delimiter has not left has not been sent (R104; assumption 2). -/
def headLeaves (l : Fin 16) (s : State) : State :=
  match s.lanes[l].tx with
  | [] => s
  | f :: rest =>
    if s.lanes[l].up && !s.lanes[l].probeAtHead then
      let s' := s.onLane l fun n => { n with tx := rest, linkOut := some f.bytes }
      if f.isReply then takeHead l (headAnswer l) s' else s'
    else s

def execFrameLeaves (dt : Nat) (l : Fin 16) (s : State) : Out := s.atEvent dt (headLeaves l)

/-! ### UNKNOWN_KIND (R72, R153) -/

/-- The end of a request frame whose kind byte is `kind` and whose form is bad: a whole one that is taken is refused BAD_FORM. With a
good form the command names no event, and a whole ECHO on a lane is no request (R69; assumption 2). -/
def badFormEnds (src : Source) (kind : Byte) (s : State) : State :=
  match src with
  | .lane l tag payload =>
    if formOk (.lane l) kind payload.length ∨ kind = Kind.echo.byte ∧ payload.length ≤ 248 then s
    else requestEnds l kind tag payload (fun _ => refuse .badForm) s
  | .ops tag payload =>
    if formOk .ops kind payload.length then s
    else opsWrite payload (fun s' => State.holdReply kind tag (refuse .badForm s')) s

def execUnknownKind (dt : Nat) (src : Source) (kind : Byte) (s : State) : Out := s.atEvent dt (badFormEnds src kind)

end Sys2Proof.Machine
end

