-- ==== Sys2Proof/Machine/Dispatch.lean ====
section
/-! DEFINITION. The effect of every command on everything but the queue: one arm for each row of spec/opcode_table.json, in
the table's order. -/

namespace Sys2Proof.Machine

def exec (i : Instr) (s : State) : Host.Outcome State Fault Refusal :=
  match i with
  | .pulseEdge dt p edge lines error => Sys2Proof.Machine.execPulseEdge dt p edge lines error s
  | .announcement dt p chars framing => Sys2Proof.Machine.execAnnouncement dt p chars framing s
  | .announcementCutShort dt p => Sys2Proof.Machine.execAnnouncementCutShort dt p s
  | .announceWindowExpiry dt p => Sys2Proof.Machine.execAnnounceWindowExpiry dt p s
  | .silenceExpiry dt p => Sys2Proof.Machine.execSilenceExpiry dt p s
  | .slewEnd dt => Sys2Proof.Machine.execSlewEnd dt s
  | .traceSample dt => Sys2Proof.Machine.execTraceSample dt s
  | .linkUp dt l => Sys2Proof.Machine.execLinkUp dt l s
  | .linkDown dt l => Sys2Proof.Machine.execLinkDown dt l s
  | .startDelimiter dt l => Sys2Proof.Machine.execStartDelimiter dt l s
  | .frameEnd dt l bytes lineError => Sys2Proof.Machine.execFrameEnd dt l bytes lineError s
  | .unknownKind dt src kind => Sys2Proof.Machine.execUnknownKind dt src kind s
  | .frameLeaves dt l => Sys2Proof.Machine.execFrameLeaves dt l s
  | .probeDeparture dt l => Sys2Proof.Machine.execProbeDeparture dt l s
  | .stamp dt src => Sys2Proof.Machine.execStamp dt src s
  | .stampKeyed dt src => Sys2Proof.Machine.execStampKeyed dt src s
  | .readTime dt src => Sys2Proof.Machine.execReadTime dt src s
  | .traceReport dt src => Sys2Proof.Machine.execTraceReport dt src s
  | .closeInterval dt src => Sys2Proof.Machine.execCloseInterval dt src s
  | .laneStatus dt src => Sys2Proof.Machine.execLaneStatus dt src s
  | .calibrate dt src => Sys2Proof.Machine.execCalibrate dt src s
  | .probeIntervalExpiry dt l => Sys2Proof.Machine.execProbeIntervalExpiry dt l s
  | .echo dt port tag payload => Sys2Proof.Machine.execEcho dt port tag payload s
  | .echoTimeout dt l => Sys2Proof.Machine.execEchoTimeout dt l s
  | .queryAuction dt src => Sys2Proof.Machine.execQueryAuction dt src s
  | .schedule dt src => Sys2Proof.Machine.execSchedule dt src s
  | .reschedule dt src => Sys2Proof.Machine.execReschedule dt src s
  | .cancel dt src => Sys2Proof.Machine.execCancel dt src s
  | .retire dt src => Sys2Proof.Machine.execRetire dt src s
  | .mapKey dt src => Sys2Proof.Machine.execMapKey dt src s
  | .unmapKey dt src => Sys2Proof.Machine.execUnmapKey dt src s
  | .subscribe dt src => Sys2Proof.Machine.execSubscribe dt src s
  | .unsubscribe dt src => Sys2Proof.Machine.execUnsubscribe dt src s
  | .extend dt src => Sys2Proof.Machine.execExtend dt src s
  | .openExpiry dt j => Sys2Proof.Machine.execOpenExpiry dt j s
  | .windowExpiry dt j => Sys2Proof.Machine.execWindowExpiry dt j s
  | .endExpiry dt j => Sys2Proof.Machine.execEndExpiry dt j s
  | .settleExpiry dt j => Sys2Proof.Machine.execSettleExpiry dt j s
  | .setTimescale dt src => Sys2Proof.Machine.execSetTimescale dt src s
  | .setReference dt src => Sys2Proof.Machine.execSetReference dt src s
  | .armReference dt src => Sys2Proof.Machine.execArmReference dt src s
  | .disableReference dt src => Sys2Proof.Machine.execDisableReference dt src s
  | .readReference dt src => Sys2Proof.Machine.execReadReference dt src s
  | .setTrace dt src => Sys2Proof.Machine.execSetTrace dt src s
  | .setLane dt src => Sys2Proof.Machine.execSetLane dt src s
  | .setDeviceLimits dt src => Sys2Proof.Machine.execSetDeviceLimits dt src s
  | .resync dt src => Sys2Proof.Machine.execResync dt src s
  | .readAlerts dt src => Sys2Proof.Machine.execReadAlerts dt src s
  | .setAlertMask dt src => Sys2Proof.Machine.execSetAlertMask dt src s
  | .retainedEnable dt src => Sys2Proof.Machine.execRetainedEnable dt src s
  | .retainedRead dt src => Sys2Proof.Machine.execRetainedRead dt src s
  | .retainedWrite dt src => Sys2Proof.Machine.execRetainedWrite dt src s
  | .systemReset dt src => Sys2Proof.Machine.execSystemReset dt src s
  | .opsWriteDiscarded dt bytes => Sys2Proof.Machine.execOpsWriteDiscarded dt bytes s
  | .opsWriteBusy dt bytes => Sys2Proof.Machine.execOpsWriteBusy dt bytes s
  | .opsRead dt part => Sys2Proof.Machine.execOpsRead dt part s
  | .powerOn => Sys2Proof.Machine.execPowerOn s
  | .resetPinAsserted => Sys2Proof.Machine.execResetPinAsserted s
  | .runStart => Sys2Proof.Machine.execRunStart s
  | .announcementBreak dt p => Sys2Proof.Machine.execAnnouncementBreak dt p s
  | .powerLoss => Sys2Proof.Machine.execPowerLoss s
  | .backupSupplyLoss => Sys2Proof.Machine.execBackupSupplyLoss s

end Sys2Proof.Machine
end

