-- ==== Sys2Proof/Safety.lean ====
section
/-! DEFINITION. The terms in which claims about the part are stated: what a command is, what a request that is taken meets,
and what the laws of the device say of a state. Nothing here is used by the machine. -/

namespace Sys2Proof

/-! ### Commands -/

/-- The advance of the raw count a command carries; the commands of power and reset carry none (assumption 1). -/
def Instr.dt : Instr → Nat
  | .pulseEdge dt .. | .announcement dt .. | .announcementCutShort dt .. | .announceWindowExpiry dt ..
  | .silenceExpiry dt .. | .slewEnd dt | .traceSample dt | .linkUp dt .. | .linkDown dt .. | .startDelimiter dt ..
  | .frameEnd dt .. | .unknownKind dt .. | .frameLeaves dt .. | .probeDeparture dt .. | .stamp dt .. | .stampKeyed dt ..
  | .readTime dt .. | .traceReport dt .. | .closeInterval dt .. | .laneStatus dt .. | .calibrate dt ..
  | .probeIntervalExpiry dt .. | .echo dt .. | .echoTimeout dt .. | .queryAuction dt .. | .schedule dt ..
  | .reschedule dt .. | .cancel dt .. | .retire dt .. | .mapKey dt .. | .unmapKey dt .. | .subscribe dt ..
  | .unsubscribe dt .. | .extend dt .. | .openExpiry dt .. | .windowExpiry dt .. | .endExpiry dt ..
  | .settleExpiry dt .. | .setTimescale dt .. | .setReference dt .. | .armReference dt .. | .disableReference dt ..
  | .readReference dt .. | .setTrace dt .. | .setLane dt .. | .setDeviceLimits dt .. | .resync dt .. | .readAlerts dt ..
  | .setAlertMask dt .. | .retainedEnable dt .. | .retainedRead dt .. | .retainedWrite dt .. | .systemReset dt ..
  | .opsWriteDiscarded dt .. | .opsWriteBusy dt .. | .opsRead dt .. | .announcementBreak dt .. => dt
  | .powerOn | .resetPinAsserted | .runStart | .powerLoss | .backupSupplyLoss => 0

/-- The commands of main power, the reset pin and the backup supply (R162, R163). -/
def Instr.isPower : Instr → Bool
  | .powerOn | .resetPinAsserted | .runStart | .powerLoss | .backupSupplyLoss => true
  | .pulseEdge .. | .announcement .. | .announcementCutShort .. | .announceWindowExpiry .. | .silenceExpiry ..
  | .slewEnd .. | .traceSample .. | .linkUp .. | .linkDown .. | .startDelimiter .. | .frameEnd .. | .unknownKind ..
  | .frameLeaves .. | .probeDeparture .. | .stamp .. | .stampKeyed .. | .readTime .. | .traceReport .. | .closeInterval ..
  | .laneStatus .. | .calibrate .. | .probeIntervalExpiry .. | .echo .. | .echoTimeout .. | .queryAuction ..
  | .schedule .. | .reschedule .. | .cancel .. | .retire .. | .mapKey .. | .unmapKey .. | .subscribe .. | .unsubscribe ..
  | .extend .. | .openExpiry .. | .windowExpiry .. | .endExpiry .. | .settleExpiry .. | .setTimescale ..
  | .setReference .. | .armReference .. | .disableReference .. | .readReference .. | .setTrace .. | .setLane ..
  | .setDeviceLimits .. | .resync .. | .readAlerts .. | .setAlertMask .. | .retainedEnable .. | .retainedRead ..
  | .retainedWrite .. | .systemReset .. | .opsWriteDiscarded .. | .opsWriteBusy .. | .opsRead ..
  | .announcementBreak .. => false

/-- The request whose whole frame a command ends, and where. An ECHO is a request at the operations port (R153) and none on a lane
(R69), and UNKNOWN_KIND has no kind. -/
def Instr.request : Instr → Option (Source × Machine.Kind)
  | .stamp _ src => some (src, .stamp)
  | .stampKeyed _ src => some (src, .stampKeyed)
  | .readTime _ src => some (src, .readTime)
  | .traceReport _ src => some (src, .traceReport)
  | .closeInterval _ src => some (src, .closeInterval)
  | .laneStatus _ src => some (src, .laneStatus)
  | .calibrate _ src => some (src, .calibrate)
  | .queryAuction _ src => some (src, .queryAuction)
  | .schedule _ src => some (src, .schedule)
  | .reschedule _ src => some (src, .reschedule)
  | .cancel _ src => some (src, .cancel)
  | .retire _ src => some (src, .retire)
  | .mapKey _ src => some (src, .mapKey)
  | .unmapKey _ src => some (src, .unmapKey)
  | .subscribe _ src => some (src, .subscribe)
  | .unsubscribe _ src => some (src, .unsubscribe)
  | .extend _ src => some (src, .extend)
  | .setTimescale _ src => some (src, .setTimescale)
  | .setReference _ src => some (src, .setReference)
  | .armReference _ src => some (src, .armReference)
  | .disableReference _ src => some (src, .disableReference)
  | .readReference _ src => some (src, .readReference)
  | .setTrace _ src => some (src, .setTrace)
  | .setLane _ src => some (src, .setLane)
  | .setDeviceLimits _ src => some (src, .setDeviceLimits)
  | .resync _ src => some (src, .resync)
  | .readAlerts _ src => some (src, .readAlerts)
  | .setAlertMask _ src => some (src, .setAlertMask)
  | .retainedEnable _ src => some (src, .retainedEnable)
  | .retainedRead _ src => some (src, .retainedRead)
  | .retainedWrite _ src => some (src, .retainedWrite)
  | .systemReset _ src => some (src, .systemReset)
  | .echo _ .ops tag payload => some (.ops tag payload, .echo)
  | .echo _ (.lane _) _ _ => none
  | .pulseEdge .. | .announcement .. | .announcementCutShort .. | .announceWindowExpiry .. | .silenceExpiry ..
  | .slewEnd .. | .traceSample .. | .linkUp .. | .linkDown .. | .startDelimiter .. | .frameEnd .. | .unknownKind ..
  | .frameLeaves .. | .probeDeparture .. | .probeIntervalExpiry .. | .echoTimeout .. | .openExpiry .. | .windowExpiry ..
  | .endExpiry .. | .settleExpiry .. | .opsWriteDiscarded .. | .opsWriteBusy .. | .opsRead .. | .announcementBreak ..
  | .powerOn | .resetPinAsserted | .runStart | .powerLoss | .backupSupplyLoss => none

/-- The request comes from the operations port. -/
def Source.isOps : Source → Bool
  | .ops .. => true
  | .lane .. => false

/-- A command at which a run may end or begin (10.1): those of power and the pin, and SYSTEM_RESET at the operations port. -/
def Instr.restarts (c : Instr) : Bool :=
  c.isPower || (match c.request with
    | some (src, k) => k == .systemReset && src.isOps
    | none => false)

end Sys2Proof

namespace Sys2Proof.Machine

/-! ### A request that is taken (R71 to R73, R152, R153) -/

/-- What a taking hands on: the path, the instant the request stands for, its tag and payload, and the state its answering
block reads. -/
structure Taken where
  path : Path
  instant : Nat
  tag : Tag
  payload : List Byte
  state : State
  deriving DecidableEq, Repr

/-- The taking of a request of kind `k` at the end of its whole frame, where it passes form and role: on an UP lane with a frame in
reception, an empty request queue and a free reply entry (R70, R71), or in a WRITE transaction at an EMPTY operations port (R152). -/
def State.taken (k : Kind) (src : Source) (s : State) : Option Taken :=
  match src with
  | .lane l tag payload =>
    match s.lanes[l].rxLatch with
    | none => none
    | some latch =>
      if s.lanes[l].up ∧ s.lanes[l].queue = [] ∧ s.lanes[l].replies < 8 ∧ k.allows (.lane l) payload.length
          ∧ s.lanes[l].settings.roles.allow k then
        some { path := .lane l, instant := latch, tag, payload, state := s.onLane l fun n => { n with rxLatch := none } }
      else none
  | .ops tag payload =>
    if s.ops.spi = some 165 ∧ s.ops.reply = none ∧ k.allows .ops payload.length ∧ k.laneOnly = false then
      some { path := .ops, instant := s.now, tag, payload, state := { s with ops := { s.ops with lastWrite := .taken, spi := none } } }
    else none

/-- The reply joins its lane's transmit queue, or the reply buffer. -/
def Taken.reply (r : Taken) (k : Kind) (a : Answer) (s : State) : State :=
  match r.path with
  | .lane l => s.onLane l (Lane.join (.reply { kind := k.byte, tag := r.tag, code := a.code, ind := a.ind, body := a.body }))
  | .ops =>
    { s with ops := { s.ops with
        reply := some { kind := k.byte, tag := r.tag, code := a.code, ind := a.ind, body := a.body } } }

/-- The taken request's addressing form, decoded at offset `off` and resolved: the slot, WRAP, and the state with the cursor
moved. -/
def Taken.resolved (r : Taken) (off : Nat) : Option (Fin 64 × Bool × State) :=
  match decodeForm off r.payload with
  | none => none
  | some f =>
    match r.state.resolve r.path f with
    | .ok x => some x
    | .error _ => none

/-- A DONE answer whose only indication may be WRAP. -/
def Answer.doneWrap (wrap : Bool) (b : Body) : Answer := { code := .done, ind := { Indications.clear with wrap := wrap }, body := b }

/-! ### The timescale unit (first to fourth laws) -/

/-- The timescale unit's counts, settings and rate lie in their ranges (01, opening table; R4). -/
def Timescale.inRange (t : Timescale) : Prop :=
  t.settings.ok = true ∧ t.rate.natAbs ≤ t.settings.rateLimit ∧ t.ns ≤ maxNs ∧ t.frac < unit ∧ t.raw ≤ maxNs

/-- The third law (R22): at most one reference is ACTIVE, and one is ACTIVE exactly in ACQUIRING and LOCKED. -/
def State.thirdLaw (s : State) : Prop :=
  (∀ p q : Fin 4, s.refs[p].state = .active → s.refs[q].state = .active → p = q) ∧
  ((∃ p : Fin 4, s.refs[p].state = .active) ↔ s.ts.state = .acquiring ∨ s.ts.state = .locked)

/-- The fourth law (R20): a call is live only in service. -/
def State.fourthLaw (s : State) : Prop := s.anyLive = true → s.inService = true

/-- Out of service the device grade is UNTRACED (R51, R53), and in service a last applied mark is present (R49). -/
def State.gradeLaw (s : State) : Prop :=
  (s.inService = false → s.trace.dg = .untraced) ∧ (s.inService = true → s.ts.lastMark.isSome)

/-- The largest bound a grade allows; UNTRACED allows every bound (3.1). -/
def TraceSettings.threshold (t : TraceSettings) : Grade → Option Nat
  | .a => some t.gA
  | .b => some t.gB
  | .c => some t.gC
  | .untraced => none

/-! ### References -/

/-- The record of a reference after an accepted mark that leaves its state as it was (R29). -/
def RefRecord.marked (m : Mark) (r : RefRecord) : RefRecord :=
  { r with
    lastPhi := some ((m.tRef : Int) - m.rawMark), lastRaw := some m.rawMark
    lastTheta := some ((m.tRef : Int) + r.config.delay - m.tMark, m.tMark)
    rejects := 0, good := min 64 (r.good + 1)
    counts := { r.counts with accepted := min 65535 (r.counts.accepted + 1) } }

/-- The record after a code error that is not the K-th rejection in a row (R24, R30). -/
def RefRecord.codeErrored (r : RefRecord) : RefRecord :=
  { r with
    good := 0, rejects := r.rejects + 1
    counts := { r.counts with codeErrors := min 65535 (r.counts.codeErrors + 1)
                              rejected := min 65535 (r.counts.rejected + 1) } }

/-- The mark that a latched edge with exchange second `sec` makes (R25). -/
def markOf (sec : Int) (tMark rawMark uRef : Nat) : Mark := { tMark, rawMark, tRef := sec.toNat * 1000000000, uRef }

/-! ### Lanes whose window is used (R109 to R112) -/

/-- The state after an event at the exchange time that stands uses lane `l`'s window: the samples older than the age limit are gone,
the derived figures are those of what is left under Cmax, and CALIBRATION_LOST is raised where a CALIBRATED lane is left with three
samples or fewer (R109 to R112). -/
def State.windowUsed (l : Fin 16) (s : State) : State :=
  let n := s.lanes[l]
  let w := n.window.filter fun x => decide (s.ts.ns - x.taken ≤ n.settings.ageLimit * 1000000000)
  let e := { s with lanes := s.lanes.set l { n with
    window := w, derived := derive s.ops.limits.cmax n.settings.c0 n.settings.asymmetry w } }
  if n.derived.standing = .calibrated ∧ w.length < 4 then e.raise .calibrationLost else e

/-! ### Auction records (eighth to eleventh laws) -/

/-- T_end and the draw value are present exactly where the phase has them (7.1, R114): absent before the window opens, and
present from then to UNCROSS_DUE. -/
def Call.endPresent (c : Call) : Prop :=
  match c.phase with
  | .scheduled | .call => c.tEnd = none ∧ c.draw = none
  | .window | .extended | .traceHold | .settling | .uncrossDue => c.tEnd.isSome ∧ c.draw.isSome
  | .cancelled => True

/-- Every stamp ruled IN_CALL so far lies before the time the call's end is drawn from, and then before its end (R94). -/
def Call.eighthLaw (c : Call) : Prop :=
  match c.phase with
  | .scheduled => c.latestIn = none
  | .call => ∀ t, c.latestIn = some t → t < c.tSched
  | .window | .extended | .traceHold | .settling | .uncrossDue => ∀ t e, c.latestIn = some t → c.tEnd = some e → t < e
  | .cancelled => True

/-- The ninth law (R143): neither holds nor extensions pass their maximum. -/
def Call.ninthLaw (c : Call) : Prop := c.holdsUsed ≤ c.holdMax ∧ c.extUsed ≤ c.extCap

/-- The tenth law (R143): a call that closed on a grade short of its required grade has spent its holds and is flagged. -/
def Call.tenthLaw (c : Call) : Prop :=
  c.phase = .settling ∨ c.phase = .uncrossDue →
    ∃ g, c.closeGrade = some g ∧ c.untracedFlag = some (!g.meets c.required) ∧
      (g.meets c.required = false → c.holdsUsed = c.holdMax)

/-- A property of every record of the table. -/
def State.everyCall (p : Call → Prop) (s : State) : Prop := ∀ (i : Fin 64) (c : Call), s.slots[i] = some c → p c

/-- The eleventh law (R131), with the canonical forms of the two lists: every mapped key refers to a slot that is not FREE,
and each slot has an expiry entry exactly where its phase has a due time, with that due time. -/
def State.eleventhLaw (s : State) : Prop :=
  mapWf s.groupMap = true ∧ expiryWf s.expiry = true ∧
  (∀ e ∈ s.groupMap, (s.slots[e.2]).isSome = true) ∧
  ∀ i : Fin 64, expiryOf i s.expiry = (s.slots[i]).bind (Call.dueTime s.ops.limits)

/-! ### Lanes -/

/-- A lane's queues are within their shares (R70, R77), requests wait only while the reply share is full (R70), its window is within
eight samples (R108), and a lane that is DOWN holds nothing in flight (R66). -/
def Lane.wf (n : Lane) : Prop :=
  n.queue.length ≤ 8 ∧ n.replies ≤ 8 ∧ n.notices ≤ 8 ∧ n.window.length ≤ 8 ∧ (n.queue ≠ [] → n.replies = 8) ∧
  (n.up = false → n.queue = [] ∧ n.tx = [] ∧ n.window = [] ∧ n.probe = none ∧ n.intervalDue = none ∧ n.echoDue = none ∧
    n.rxLatch = none)

/-- Every lane is well formed. -/
def State.lanesWf (s : State) : Prop := ∀ l : Fin 16, s.lanes[l].wf

/-! ### The secrecy of the end (seventh law, R149) -/

/-- The end of a call in this phase counts as taken, or was dropped from the record. -/
def Phase.endTold : Phase → Bool
  | .settling | .uncrossDue | .cancelled => true
  | .scheduled | .call | .window | .extended | .traceHold => false

/-- A cancelled call that holds an end or a draw value has had its end taken: it holds a close grade too (R125). -/
def Call.cancelLaw (c : Call) : Prop :=
  c.phase = .cancelled → c.tEnd.isSome = true ∨ c.draw.isSome = true → c.closeGrade.isSome = true

/-- A reply's payload gives out no end and no draw value before the end has been taken, and of a cancelled call none without its
close grade. -/
def Body.keepsSecret : Body → Prop
  | .snapshot r => ∀ c, r.call = some c → (c.phase.endTold = false → c.tEnd = none ∧ c.draw = none) ∧ c.cancelLaw
  | _ => True

/-- A frame on its way out gives out no end that has not been taken: a PHASE_NOTICE and a probe carry none, and a CLOSE_NOTICE is of a
call that closed, with its close grade (R148). -/
def TxFrame.keepsSecret : TxFrame → Prop
  | .reply r => r.body.keepsSecret
  | .closeNotice n => n.closeGrade.isSome
  | .phaseNotice _ | .probe _ => True

/-- Every reply and every notice the part holds keeps the secret, and no cancelled record holds an end that was not taken. -/
def State.seventhLaw (s : State) : Prop :=
  (∀ r, s.ops.reply = some r → r.body.keepsSecret) ∧
  (∀ (l : Fin 16) (f : TxFrame), f ∈ s.lanes[l].tx → f.keepsSecret) ∧ s.everyCall Call.cancelLaw

/-- The state with the end and the draw value of slot `i`'s record replaced: what a client must not be able to learn. -/
def State.withEnd (i : Fin 64) (e : Option Nat) (d : Option (BitVec 32)) (s : State) : State :=
  { s with slots := s.slots.set i (s.slots[i].map fun c => { c with tEnd := e, draw := d }) }

/-- The state whose run has ended or begun keeps of the old one: the commands that wait, and the draws already made. -/
def State.inRun (cause : ResetCause) (s : State) : State :=
  { State.reset with
    ts := .atReset s.retained
    retained := { s.retained with cause := some cause, count := min 65535 (s.retained.count + 1), writeEnable := false }
    drawCount := s.drawCount, resetPin := s.resetPin, backup := s.backup, pending := s.pending }

end Sys2Proof.Machine
end

