-- ==== Sys2Proof/Certificates/Slice0/Obligations.lean ====
section
/-! DEFINITION. The statements about the part. Every one about a command concludes that `exec` answers a next state, and says
which; `u` is the state at the command's instant. Each docstring names the rules of spec/ it rests on. -/

open Sys2Proof Sys2Proof.Machine

/-! ### The machine -/

/-- One step takes the command at the front of the queue and runs it over the queue's rest. -/
def Obligations.StepRunsTheFrontCommand : Prop :=
  ∀ (c : Instr) (rest : List Instr) (s : State), s.pending = c :: rest → step s = exec c { s with pending := rest }

/-- On an empty queue the clock of a running part advances by one nominal nanosecond, and a part that does not run idles (the model's
choice: assumption 1). While the part is held at reset or has no main power, no event has an effect, and the alert line is released
(R162); that this holds without main power too is the model's choice: assumption 10. -/
def Obligations.EventsNeedARunningPart : Prop :=
  (∀ s : State, s.pending = [] →
     (s.power = .running → step s = .next { s with ts := s.ts.elapse 1 }) ∧ (s.power ≠ .running → step s = .next s)) ∧
  (∀ (c : Instr) (s : State), c.isPower = false → (∃ cause, s.power = .held cause) ∨ s.power = .off →
     exec c s = .next s ∧ s.alertLine = false)

/-- No command stops the part, and none touches the queue of waiting commands. -/
def Obligations.EveryCommandAnswersNextAndKeepsTheQueue : Prop :=
  ∀ (c : Instr) (s : State), ∃ t, exec c s = .next t ∧ t.pending = s.pending

/-! ### Exchange time (chapter 1) -/

/-- An advance over two stretches of raw count is one advance over both, so nothing is lost to truncation; and exchange time increases
with every advance of the raw count, until one of the counts holds at its largest value (R1, R2, R3). That both hold there is the
model's choice: assumption 6. -/
def Obligations.ExchangeTimeAdvancesWithTheRawCount : Prop :=
  (∀ (t : Timescale) (a b : Nat), t.inRange → (t.elapse a).elapse b = t.elapse (a + b)) ∧
  (∀ (t : Timescale) (d : Nat), t.inRange →
     t.ns ≤ (t.elapse d).ns ∧
     (0 < d → t.raw + d ≤ maxNs → t.total < maxNs * unit → t.total < (t.elapse d).total))

/-- At the instant at which the slew has worked off |S|, S is 0 and exchange time has moved by exactly S beyond what r alone
would give (R3). -/
def Obligations.SlewEndHasMovedTimeByS : Prop :=
  ∀ (dt : Nat) (s : State), s.power = .running → s.ts.inRange → s.ts.raw + dt ≤ maxNs →
    s.ts.slew.natAbs ≤ s.ts.settings.smax * dt →
    s.ts.total + dt * (unit + s.ts.rate) + s.ts.slew ≤ maxNs * unit →
    ∃ t, exec (.slewEnd dt) s = .next t ∧
      t.ts.total = s.ts.total + dt * (unit + s.ts.rate) + s.ts.slew ∧
      t = { s with ts := { s.ts with ns := t.ts.ns, frac := t.ts.frac, raw := s.ts.raw + dt, slew := 0 } }

/-- An applied mark is an accepted mark of the ACTIVE reference (R7, R45). In ACQUIRING, a mark beyond the step threshold steps (R8,
R57, R107): exchange time is moved by θ and held to its range, the fraction is kept, S is 0, the anchor absent, the lock count 0, the last
applied mark is the mark on the stepped scale, and every departed probe is abandoned; a backward step sets the next sample second to the
first whole second after it, a forward step that reaches the next sample second gives one sample, which records UNTRACED and the saturated
bound, and any other gives none; nothing else changes. Any other slews (R9, R10, R12): r is updated where
the anchor is this port's and Δ is at least 0.1 s, and is as it was otherwise; S is θ; the anchor and the last applied mark are this
mark's; the lock count rises by one where |θ| is at most the lock limit, up to 32, and is 0 beyond it. Below L that is all. At L the mark
completes lock (R12, R18): LOCKED, lock count 0, SERVICE_ENTERED raised, r saved and valid set; that the grade is evaluated after the
mark's work is the model's choice: assumption 23. -/
def Obligations.AcquiringMarksStepOrLock : Prop :=
  (∀ (p : Fin 4) (m : Mark) (θ : Int) (s : State), s.refs[p].state = .active → s.passOn p m θ = s.applyMark p m θ) ∧
  (∀ (p : Fin 4) (m : Mark) (θ : Int) (s : State), s.ts.state = .acquiring → s.ts.settings.stepThreshold < θ.natAbs →
     ∃ t, s.applyMark p m θ = t ∧
       t.ts = { s.ts with
         ns := (max 0 (min (maxNs : Int) (s.ts.ns + θ))).toNat, slew := 0, anchor := none, lockCount := 0
         lastMark := some (m.uRef, (m.tMark + θ).toNat) } ∧
       (∀ (l : Fin 16) (tag : Tag) (left : Nat), s.lanes[l].probe = some { tag, departed := some left } →
         t.lanes[l] = { s.lanes[l] with probe := none, lastExpired := some tag, echoDue := none }) ∧
       (∀ l : Fin 16, (∀ p, s.lanes[l].probe = some p → p.departed = none) → t.lanes[l] = s.lanes[l]) ∧
       (let next := (t.ts.ns / 1000000000 + 1) * 1000000000
        (θ < 0 → t.trace = { s.trace with nextSample := next } ∧ t.ops = s.ops) ∧
        (0 < θ → t.ts.ns < s.trace.nextSample → t.trace = s.trace ∧ t.ops = s.ops) ∧
        (0 < θ → s.trace.nextSample ≤ t.ts.ns →
          t.trace = { s.trace with
            dg := .untraced, nextSample := next
            interval := { s.trace.interval with
              worstU := max s.trace.interval.worstU 4294967295, seconds := s.trace.interval.seconds.bump .untraced } } ∧
          t.ops = { s.ops with
            alerts := if s.trace.dg = .untraced then s.ops.alerts else addAlert .gradeChange s.ops.alerts })) ∧
       t = { s with ts := t.ts, trace := t.trace, lanes := t.lanes, ops := t.ops }) ∧
  (∀ (p : Fin 4) (m : Mark) (θ : Int) (r : Int) (held : Bool) (s : State), s.ts.state = .acquiring →
     θ.natAbs ≤ s.ts.settings.stepThreshold →
     let due := fun raw => s.ts.anchor = some (p, raw) ∧ 100000000 ≤ m.rawMark - raw
     let full := fun raw : Nat =>
       s.ts.rate + (θ * 10 ^ 12).tdiv (((m.rawMark - raw : Nat) : Int) * 2 ^ s.ts.settings.gainShift)
     (∃ raw, due raw ∧ r = max (-(s.ts.settings.rateLimit : Int)) (min s.ts.settings.rateLimit (full raw)) ∧
         held = decide (r ≠ full raw)) ∨
       (∀ raw, ¬ due raw) ∧ r = s.ts.rate ∧ held = s.ts.rateHeld →
     let n := if θ.natAbs ≤ s.ts.settings.lockLimit then min 32 (s.ts.lockCount + 1) else 0
     let slewed := { s.ts with
       rate := r, rateHeld := held, slew := θ * unit, anchor := some (p, m.rawMark), lastMark := some (m.uRef, m.tMark) }
     (n < s.ts.settings.lockCount → s.applyMark p m θ = { s with ts := { slewed with lockCount := n } }) ∧
     (s.ts.settings.lockCount ≤ n → s.applyMark p m θ = State.evaluate s.ts.ns { s with
       ts := { slewed with state := .locked, lockCount := 0 }
       retained := { s.retained with savedRate := r, valid := true }
       ops := { s.ops with alerts := addAlert .serviceEntered s.ops.alerts } }))

/-- SET_TIMESCALE (R21): all six settings are written at once or, where one is out of range, none; a rate beyond the new limit
is held to it and the rate-held standing set. -/
def Obligations.SetTimescaleWritesAllOrNothing : Prop :=
  ∀ (dt : Nat) (src : Source) (s : State) (r : Taken), s.power = .running →
    (s.elapse dt).taken .setTimescale src = some r →
    let c : TimescaleSettings :=
      { lockCount := field 0 1 r.payload, lockLimit := field 1 4 r.payload, stepThreshold := field 5 4 r.payload
        rateLimit := field 9 4 r.payload, smax := field 13 4 r.payload, gainShift := field 17 1 r.payload }
    (c.ok = false → exec (.setTimescale dt src) s = .next (r.reply .setTimescale (.plain .range) r.state)) ∧
    (c.ok = true → s.ts.rate.natAbs ≤ c.rateLimit →
      exec (.setTimescale dt src) s = .next (r.reply .setTimescale (.done (.timescale c))
        { r.state with ts := { r.state.ts with settings := c } })) ∧
    (c.ok = true → c.rateLimit < s.ts.rate.natAbs →
      exec (.setTimescale dt src) s = .next (r.reply .setTimescale (.done (.timescale c))
        { r.state with ts := { r.state.ts with
            settings := c, rate := if s.ts.rate < 0 then -(c.rateLimit : Int) else c.rateLimit, rateHeld := true } }))

/-- The first law (R11): from a state in service, and unless the run ends or begins, no command moves exchange time beyond
its advance with the raw count, so it never decreases; and RESYNC alone may leave service. -/
def Obligations.InServiceTimeIsNeverStepped : Prop :=
  ∀ (c : Instr) (s t : State), s.power = .running → s.inService = true → s.ts.inRange → c.restarts = false →
    exec c s = .next t →
    t.ts.ns = (s.ts.elapse c.dt).ns ∧ t.ts.frac = (s.ts.elapse c.dt).frac ∧ t.ts.raw = (s.ts.elapse c.dt).raw ∧
    s.ts.ns ≤ t.ts.ns ∧ (t.inService = true ∨ ∃ dt src, c = .resync dt src)

/-- The second law (R4): every step keeps r within the rate limit, and the counts and settings in their ranges. -/
def Obligations.RateStaysWithinItsLimit : Prop :=
  ∀ s t : State, s.ts.inRange → step s = .next t → t.ts.inRange

/-! ### References (chapter 2) -/

/-- An edge at a DISABLED or FAILED port, or of the other kind, is ignored (R23); any other edge at RP2 or RP3 becomes the pending pulse
and restarts the silence timer, and a pulse it replaces is counted as unpaired (R23, R26). -/
def Obligations.PulseEdgesAreIgnoredOffDutyAndPendAtMessagePorts : Prop :=
  (∀ (dt : Nat) (p : Fin 4) (e : Edge) (lines : BitVec 48) (err : Bool) (s : State), s.power = .running →
     s.refs[p].state = .disabled ∨ s.refs[p].state = .failed ∨ e ≠ s.refs[p].config.edge →
     exec (.pulseEdge dt p e lines err) s = .next (s.elapse dt)) ∧
  (∀ (dt : Nat) (p : Fin 4) (lines : BitVec 48) (err : Bool) (s : State), s.power = .running → 2 ≤ p.val →
     s.refs[p].state = .qualifying ∨ s.refs[p].state = .ready ∨ s.refs[p].state = .active →
     let u := s.elapse dt
     let n := s.refs[p].counts.unpairedPulses
     exec (.pulseEdge dt p s.refs[p].config.edge lines err) s = .next { u with refs := u.refs.set p { s.refs[p] with
       pulse := some { tMark := u.ts.ns, rawMark := u.ts.raw }, silence := some u.ts.raw
       counts := { s.refs[p].counts with
         unpairedPulses := if s.refs[p].pulse.isSome then min 65535 (n + 1) else n } } })

/-- An accepted mark of a QUALIFYING reference at RP0 or RP1 serves its own record only, and makes it READY where consecutive
good reaches N (R25, R28, R29, R31, R45). In ACQUIRING a mark that has just made its reference READY serves its record only too. -/
def Obligations.QualifyingMarkServesItsRecord : Prop :=
  ∀ (dt : Nat) (p : Fin 4) (lines : BitVec 48) (s : State), s.power = .running → p.val < 2 → s.refs[p].state = .qualifying →
    let u := s.elapse dt
    let c := s.refs[p].config
    let sec := fullCount c s.ts.state u.ts.ns (codeValue c lines) + c.secondOffset
    let m := markOf sec u.ts.ns u.ts.raw c.uFloor
    0 ≤ sec → sec ≤ 9223372035 →
    (∀ phi raw, s.refs[p].lastPhi = some phi → s.refs[p].lastRaw = some raw →
      (((m.tRef : Int) - m.rawMark) - (phi + (((m.rawMark : Int) - raw) * s.ts.rate).tdiv (10 ^ 12))).natAbs ≤ c.maxChange) →
    (min 64 (s.refs[p].good + 1) ≠ c.qualify →
      exec (.pulseEdge dt p c.edge lines false) s = .next { u with
        refs := u.refs.set p { s.refs[p].marked m with silence := some u.ts.raw } }) ∧
    (min 64 (s.refs[p].good + 1) = c.qualify → s.ts.state = .acquiring →
      exec (.pulseEdge dt p c.edge lines false) s = .next { u with
        refs := u.refs.set p { s.refs[p].marked m with silence := some u.ts.raw, state := .ready } })

/-- An accepted mark of the ACTIVE reference in LOCKED (R9, R10, R11, R18, R29): no step however large θ is; r moves by
θ × 10^12 / Δ / 2^G toward zero and is held to its limit where the anchor is this port's and Δ is at least 0.1 s,
and is as it was otherwise, with the anchor absent, of another port or younger; S becomes θ; the anchor and the last applied mark become
this mark's; r is saved. Every accepted mark at RP0 or RP1 updates its record and is passed
on by the state that record then has (R29, R31, R45). Passed on from a READY reference while none is ACTIVE, in UNSET or HOLDOVER, it
makes its reference ACTIVE where that is eligible at the mark and no eligible reference is better by (priority, port), and serves its
record alone otherwise (R37, R38): in UNSET the state becomes ACQUIRING and the mark is applied there (R13); in HOLDOVER it becomes
LOCKED with S = θ, no step and no frequency update, and r saved (R16). ACTIVE_CHANGED is raised and one switch counted (R42). That
the grade is evaluated before the mark on entry to ACQUIRING, and after it on the return to LOCKED, is the model's choice: assumption 23. -/
def Obligations.LockedMarkSlewsAndSavesTheRate : Prop :=
  (∀ (dt : Nat) (p : Fin 4) (lines : BitVec 48) (r : Int) (held : Bool) (s : State), s.power = .running → p.val < 2 →
    s.refs[p].state = .active → s.ts.state = .locked →
    let u := s.elapse dt
    let c := s.refs[p].config
    let sec := fullCount c .locked u.ts.ns (codeValue c lines) + c.secondOffset
    let m := markOf sec u.ts.ns u.ts.raw c.uFloor
    let θ : Int := (m.tRef : Int) + c.delay - m.tMark
    let due := fun raw => s.ts.anchor = some (p, raw) ∧ 100000000 ≤ u.ts.raw - raw
    let full := fun raw : Nat =>
      s.ts.rate + (θ * 10 ^ 12).tdiv (((u.ts.raw - raw : Nat) : Int) * 2 ^ s.ts.settings.gainShift)
    (∃ raw, due raw ∧ r = max (-(s.ts.settings.rateLimit : Int)) (min s.ts.settings.rateLimit (full raw)) ∧
        held = decide (r ≠ full raw)) ∨
      (∀ raw, ¬ due raw) ∧ r = s.ts.rate ∧ held = s.ts.rateHeld →
    0 ≤ sec → sec ≤ 9223372035 →
    (∀ phi raw, s.refs[p].lastPhi = some phi → s.refs[p].lastRaw = some raw →
      (((m.tRef : Int) - m.rawMark) - (phi + (((m.rawMark : Int) - raw) * s.ts.rate).tdiv (10 ^ 12))).natAbs ≤ c.maxChange) →
    exec (.pulseEdge dt p c.edge lines false) s = .next { u with
      refs := u.refs.set p { s.refs[p].marked m with silence := some u.ts.raw }
      ts := { u.ts with
        rate := r, rateHeld := held, slew := θ * unit, anchor := some (p, u.ts.raw), lastMark := some (c.uFloor, u.ts.ns) }
      retained := { s.retained with savedRate := r, valid := true } }) ∧
  (∀ (dt : Nat) (p : Fin 4) (lines : BitVec 48) (s : State), s.power = .running → p.val < 2 →
    s.refs[p].state = .qualifying ∨ s.refs[p].state = .ready ∨ s.refs[p].state = .active →
    let u := s.elapse dt
    let c := s.refs[p].config
    let sec := fullCount c s.ts.state u.ts.ns (codeValue c lines) + c.secondOffset
    let m := markOf sec u.ts.ns u.ts.raw c.uFloor
    let θ : Int := (m.tRef : Int) + c.delay - m.tMark
    0 ≤ sec → sec ≤ 9223372035 →
    (∀ phi raw, s.refs[p].lastPhi = some phi → s.refs[p].lastRaw = some raw →
      (((m.tRef : Int) - m.rawMark) - (phi + (((m.rawMark : Int) - raw) * s.ts.rate).tdiv (10 ^ 12))).natAbs ≤ c.maxChange) →
    exec (.pulseEdge dt p c.edge lines false) s = .next (State.passOn p m θ { u with
      refs := u.refs.set p { s.refs[p].marked m with
        silence := some u.ts.raw
        state := if s.refs[p].state = .qualifying ∧ min 64 (s.refs[p].good + 1) = c.qualify then .ready
                 else s.refs[p].state } })) ∧
  (∀ (p : Fin 4) (m : Mark) (θ : Int) (s : State), s.refs[p].state = .ready → (∀ q : Fin 4, s.refs[q].state ≠ .active) →
    s.ts.state = .unset ∨ s.ts.state = .holdover →
    let near := fun q : Fin 4 =>
      s.ts.state = .holdover → ∃ x, s.refs[q].lastTheta = some x ∧ x.1.natAbs ≤ s.ops.limits.acceptLimit
    let eligible := fun q : Fin 4 =>
      s.refs[q].state = .ready ∧ s.refs[q].disputed = false ∧ s.refs[q].fresh s.ts.raw = true ∧ near q
    let wins := s.refs[p].disputed = false ∧ near p ∧ ∀ q, q ≠ p → eligible q →
      s.refs[p].config.priority < s.refs[q].config.priority ∨
        s.refs[p].config.priority = s.refs[q].config.priority ∧ p < q
    let active := fun (ts : Timescale) (ret : Retained) => { s with
      ts := ts, retained := ret
      refs := s.refs.set p { s.refs[p] with state := .active }
      trace := { s.trace with interval := { s.trace.interval with switches := min 65535 (s.trace.interval.switches + 1) } }
      ops := { s.ops with alerts := addAlert .activeChanged s.ops.alerts } }
    (¬ wins → s.passOn p m θ = s) ∧
    (wins → s.ts.state = .unset →
      s.passOn p m θ = State.applyMark p m θ ((active { s.ts with state := .acquiring } s.retained).evaluate s.ts.ns)) ∧
    (wins → s.ts.state = .holdover →
      s.passOn p m θ = (active
        { s.ts with
          state := .locked, lockCount := 0, slew := θ * unit, anchor := some (p, m.rawMark)
          lastMark := some (m.uRef, m.tMark) }
        { s.retained with savedRate := s.ts.rate, valid := true }).evaluate s.ts.ns))

/-- A rejection at RP0 or RP1: a code error, by the error line or an exchange second out of range (R24, R25), or a mark whose φ departs
from its prediction by more than M (R28). Consecutive good becomes 0, consecutive rejects and the rejected count rise, and for a code
error the code errors count; the φ history stays (R30). The K-th in a row takes a QUALIFYING or READY reference to QUALIFYING,
re-anchored on its mark where it was implausible and with its history as it was where it was a code error; it makes the ACTIVE
reference FAILED with the cause of that last rejection, raises REFERENCE_FAILED and is its loss (R39), in LOCKED a holdover entry
(R15). That a re-anchored READY reference keeps its disputed standing is the model's choice: assumption 17. -/
def Obligations.CodeErrorIsCountedAndRejected : Prop :=
  ∀ (dt : Nat) (p : Fin 4) (lines : BitVec 48) (error : Bool) (cause : FailureCause) (s : State), s.power = .running →
    p.val < 2 →
    let u := s.elapse dt
    let c := s.refs[p].config
    let sec := fullCount c s.ts.state u.ts.ns (codeValue c lines) + c.secondOffset
    let m := markOf sec u.ts.ns u.ts.raw c.uFloor
    let phi : Int := (m.tRef : Int) - m.rawMark
    let rejected := fun (r : RefRecord) => { r with
      good := 0, rejects := s.refs[p].rejects + 1, silence := some u.ts.raw }
    let counts := s.refs[p].counts
    let run := exec (.pulseEdge dt p c.edge lines error) s
    ∀ r anchored : RefRecord,
    ((error = true ∨ sec < 0 ∨ 9223372035 < sec) ∧ cause = .codeError ∧
      r = rejected { s.refs[p] with counts := { counts with
        codeErrors := min 65535 (counts.codeErrors + 1), rejected := min 65535 (counts.rejected + 1) } } ∧
      anchored = { r with state := .qualifying, rejects := 0 }) ∨
    (error = false ∧ 0 ≤ sec ∧ sec ≤ 9223372035 ∧
      (∃ last raw, s.refs[p].lastPhi = some last ∧ s.refs[p].lastRaw = some raw ∧
        c.maxChange < (phi - (last + (((m.rawMark : Int) - raw) * s.ts.rate).tdiv (10 ^ 12))).natAbs) ∧
      cause = .implausible ∧
      r = rejected { s.refs[p] with counts := { counts with rejected := min 65535 (counts.rejected + 1) } } ∧
      anchored = { r with state := .qualifying, rejects := 0, lastPhi := some phi, lastRaw := some u.ts.raw }) →
    (s.refs[p].state = .qualifying ∨ s.refs[p].state = .ready ∨ s.refs[p].state = .active →
      s.refs[p].rejects + 1 < c.rejectLimit → run = .next { u with refs := u.refs.set p r }) ∧
    (s.refs[p].state = .qualifying ∨ s.refs[p].state = .ready → c.rejectLimit ≤ s.refs[p].rejects + 1 →
      run = .next { u with refs := u.refs.set p anchored }) ∧
    (s.refs[p].state = .active → c.rejectLimit ≤ s.refs[p].rejects + 1 →
      let gone := { r with state := .failed, cause := some cause, pulse := none, collecting := false, silence := none }
      ∃ t, run = .next t ∧ t = ({ u with refs := u.refs.set p gone }.raise .referenceFailed).loseActive ∧
        (s.ts.state = .locked →
          t.ts = { u.ts with state := .holdover, lockCount := 0, anchor := none } ∧
          t.refs[p] = { gone with disputed := false } ∧
          (∀ q, q ≠ p → t.refs[q] = { s.refs[q] with disputed := false }) ∧
          t.trace.interval = { s.trace.interval with holdovers := min 65535 (s.trace.interval.holdovers + 1) } ∧
          hasAlert .referenceFailed t.ops.alerts = true ∧ hasAlert .holdoverEntered t.ops.alerts = true ∧
          t.slots = s.slots ∧ t.lanes = s.lanes ∧ t.expiry = s.expiry ∧ t.groupMap = s.groupMap ∧ t.retained = s.retained))


/-- An announcement taken at RP2 or RP3 (R27, R170): the port then waits for a break. With a good check and no pulse pending it is counted
as unpaired. With one pending it pairs and makes the pulse's mark, with u_ref the greater of the floor and the quality carried. An
accepted mark, one with no φ history or at most M from its prediction (R28), updates the record and is passed on by the state that record
then has (R29, R31, R45): a QUALIFYING one serves its record alone, and that of the ACTIVE reference in LOCKED slews, updates r where the
anchor is this port's and Δ is at least 0.1 s, and saves it (R9, R10, R11, R18). A bad check and an announced second out of range are
code errors, and a mark that departs by more than M is implausible: rejections, counted, with the pending pulse spent uncounted and the φ
history kept (R30). The K-th in a row takes a QUALIFYING or READY reference to QUALIFYING, re-anchored on its mark where it was
implausible; it makes the ACTIVE one FAILED with the cause of that last rejection, and is its loss (R39), in LOCKED a holdover entry
(R15). That a re-anchored READY reference keeps its disputed standing is the model's choice: assumption 17. -/
def Obligations.AnnouncementIsPairedOrCounted : Prop :=
  ∀ (dt : Nat) (p : Fin 4) (chars : List Byte) (framing : Bool) (s : State), s.power = .running → 2 ≤ p.val →
    chars.length = 10 → s.refs[p].collecting = true →
    s.refs[p].state = .qualifying ∨ s.refs[p].state = .ready ∨ s.refs[p].state = .active →
    let u := s.elapse dt
    let c := s.refs[p].config
    let counts := s.refs[p].counts
    let run := exec (.announcement dt p chars framing) s
    let good := framing = false ∧ be (chars.drop 8) = (frameCheck (chars.take 8)).toNat
    let waiting := { s.refs[p] with collecting := false, pulse := none }
    let sec : Int := (field 0 6 chars : Int) + c.secondOffset
    let inRange := 0 ≤ sec ∧ sec ≤ 9223372035
    let q := field 6 2 chars
    let mark := fun x : PendingPulse => markOf sec x.tMark x.rawMark (if q = 65535 then c.uFloor else max c.uFloor q)
    let phi := fun x : PendingPulse => ((mark x).tRef : Int) - x.rawMark
    let departure := fun (x : PendingPulse) (last : Int) (raw : Nat) =>
      (phi x - (last + (((x.rawMark : Int) - raw) * s.ts.rate).tdiv (10 ^ 12))).natAbs
    (good → s.refs[p].pulse = none →
      run = .next { u with refs := u.refs.set p { waiting with
        counts := { counts with unpairedAnnouncements := min 65535 (counts.unpairedAnnouncements + 1) } } }) ∧
    (∀ x, good → s.refs[p].pulse = some x → inRange →
      (∀ last raw, s.refs[p].lastPhi = some last → s.refs[p].lastRaw = some raw → departure x last raw ≤ c.maxChange) →
      let m := mark x
      let θ : Int := (m.tRef : Int) + c.delay - m.tMark
      let ready := s.refs[p].state = .qualifying ∧ min 64 (s.refs[p].good + 1) = c.qualify
      let v := { u with refs := u.refs.set p { waiting.marked m with state := if ready then .ready else s.refs[p].state } }
      run = .next (v.passOn p m θ) ∧
      (s.refs[p].state = .qualifying → ¬ ready → run = .next v) ∧
      (s.refs[p].state = .active → s.ts.state = .locked → ∀ (r : Int) (held : Bool),
        let due := fun raw => s.ts.anchor = some (p, raw) ∧ 100000000 ≤ x.rawMark - raw
        let full := fun raw : Nat =>
          s.ts.rate + (θ * 10 ^ 12).tdiv (((x.rawMark - raw : Nat) : Int) * 2 ^ s.ts.settings.gainShift)
        (∃ raw, due raw ∧ r = max (-(s.ts.settings.rateLimit : Int)) (min s.ts.settings.rateLimit (full raw)) ∧
            held = decide (r ≠ full raw)) ∨
          (∀ raw, ¬ due raw) ∧ r = s.ts.rate ∧ held = s.ts.rateHeld →
        run = .next { v with
          ts := { u.ts with
            rate := r, rateHeld := held, slew := θ * unit, anchor := some (p, x.rawMark), lastMark := some (m.uRef, x.tMark) }
          retained := { s.retained with savedRate := r, valid := true } })) ∧
    ∀ (cause : FailureCause) (r anchored : RefRecord),
      (¬ good ∨ good ∧ s.refs[p].pulse.isSome = true ∧ ¬ inRange) ∧ cause = .codeError ∧
          r = waiting.codeErrored ∧ anchored = { r with state := .qualifying, rejects := 0 } ∨
        (good ∧ inRange ∧ ∃ x last raw, s.refs[p].pulse = some x ∧ s.refs[p].lastPhi = some last ∧ s.refs[p].lastRaw = some raw ∧
          c.maxChange < departure x last raw ∧ cause = .implausible ∧
          r = { waiting with
            good := 0, rejects := s.refs[p].rejects + 1
            counts := { counts with rejected := min 65535 (counts.rejected + 1) } } ∧
          anchored = { r with state := .qualifying, rejects := 0, lastPhi := some (phi x), lastRaw := some x.rawMark }) →
      (s.refs[p].rejects + 1 < c.rejectLimit → run = .next { u with refs := u.refs.set p r }) ∧
      (s.refs[p].state = .qualifying ∨ s.refs[p].state = .ready → c.rejectLimit ≤ s.refs[p].rejects + 1 →
        run = .next { u with refs := u.refs.set p anchored }) ∧
      (s.refs[p].state = .active → c.rejectLimit ≤ s.refs[p].rejects + 1 →
        let gone := { r with state := .failed, cause := some cause, silence := none }
        ∃ t, run = .next t ∧ t = ({ u with refs := u.refs.set p gone }.raise .referenceFailed).loseActive ∧
          (s.ts.state = .locked →
            t.ts = { u.ts with state := .holdover, lockCount := 0, anchor := none } ∧
            t.refs[p] = { gone with disputed := false } ∧
            (∀ q, q ≠ p → t.refs[q] = { s.refs[q] with disputed := false }) ∧
            t.trace.interval = { s.trace.interval with holdovers := min 65535 (s.trace.interval.holdovers + 1) } ∧
            hasAlert .referenceFailed t.ops.alerts = true ∧ hasAlert .holdoverEntered t.ops.alerts = true ∧
            t.slots = s.slots ∧ t.lanes = s.lanes ∧ t.expiry = s.expiry ∧ t.groupMap = s.groupMap ∧ t.retained = s.retained))

/-- Breaks at RP2 and RP3 (R170): one with no message in collection begins a message; one that cuts a message short is taken as an
announcement whose check fails, a code error, and begins the next message. As the K-th rejection in a row it takes a QUALIFYING or READY
reference to QUALIFYING, and fails the ACTIVE one, whose loss it is (R30, R39). The announce window runs on the raw count; at its end the
pending pulse is dropped and counted as unpaired (R26). That a READY reference taken to QUALIFYING keeps its disputed standing is the
model's choice: assumption 17. -/
def Obligations.BreaksAndAnnounceWindows : Prop :=
  (∀ (dt : Nat) (p : Fin 4) (s : State), s.power = .running → 2 ≤ p.val →
     s.refs[p].state = .qualifying ∨ s.refs[p].state = .ready ∨ s.refs[p].state = .active →
     let u := s.elapse dt
     let r := { s.refs[p].codeErrored with pulse := none }
     let cut := exec (.announcementCutShort dt p) s
     (s.refs[p].collecting = false →
       exec (.announcementBreak dt p) s = .next { u with refs := u.refs.set p { s.refs[p] with collecting := true } }) ∧
     (s.refs[p].collecting = true →
       (s.refs[p].rejects + 1 < s.refs[p].config.rejectLimit → cut = .next { u with refs := u.refs.set p r }) ∧
       (s.refs[p].config.rejectLimit ≤ s.refs[p].rejects + 1 →
         (s.refs[p].state = .qualifying ∨ s.refs[p].state = .ready →
           cut = .next { u with refs := u.refs.set p { r with state := .qualifying, rejects := 0 } }) ∧
         (s.refs[p].state = .active →
           let gone := { r with state := .failed, cause := some .codeError, collecting := false, silence := none }
           cut = .next ({ u with refs := u.refs.set p gone }.raise .referenceFailed).loseActive)))) ∧
  (∀ (dt : Nat) (p : Fin 4) (x : PendingPulse) (s : State), s.power = .running → 2 ≤ p.val → s.refs[p].pulse = some x →
     let u := s.elapse dt
     (s.refs[p].config.windowMs * 1000000 ≤ u.ts.raw - x.rawMark →
       exec (.announceWindowExpiry dt p) s = .next { u with refs := u.refs.set p { s.refs[p] with
         pulse := none
         counts := { s.refs[p].counts with unpairedPulses := min 65535 (s.refs[p].counts.unpairedPulses + 1) } } }))

/-- A silence timer that has reached the mark timeout fails a QUALIFYING or READY reference as SILENT (R22, R32); that of the ACTIVE one
is its loss (R39), in LOCKED a holdover entry (R15). That a failed READY reference keeps its disputed standing is the model's choice:
assumption 17. -/
def Obligations.SilenceFailsTheReference : Prop :=
  ∀ (dt : Nat) (p : Fin 4) (start : Nat) (s : State), s.power = .running → s.refs[p].silence = some start →
    let u := s.elapse dt
    let gone := { s.refs[p] with state := .failed, cause := some .silent, pulse := none, collecting := false, silence := none }
    let failed := { u with refs := u.refs.set p gone }.raise .referenceFailed
    s.refs[p].config.timeoutMs * 1000000 ≤ u.ts.raw - start →
    (s.refs[p].state = .qualifying ∨ s.refs[p].state = .ready → exec (.silenceExpiry dt p) s = .next failed) ∧
    (s.refs[p].state = .active →
      ∃ t, exec (.silenceExpiry dt p) s = .next t ∧ t = failed.loseActive ∧
        (s.ts.state = .locked →
          t.ts = { u.ts with state := .holdover, lockCount := 0, anchor := none } ∧
          t.refs[p] = { gone with disputed := false } ∧
          (∀ q, q ≠ p → t.refs[q] = { s.refs[q] with disputed := false }) ∧
          t.trace.interval = { s.trace.interval with holdovers := min 65535 (s.trace.interval.holdovers + 1) } ∧
          hasAlert .referenceFailed t.ops.alerts = true ∧ hasAlert .holdoverEntered t.ops.alerts = true ∧
          t.slots = s.slots ∧ t.lanes = s.lanes ∧ t.expiry = s.expiry ∧ t.groupMap = s.groupMap ∧ t.retained = s.retained))


/-- The loss of the active reference in ACQUIRING (R14, R39): the best eligible reference becomes ACTIVE at the same event and
the state stays ACQUIRING; with none eligible the state becomes UNSET. S, r and the last applied mark are kept. -/
def Obligations.LossInAcquiringReplacesOrUnsets : Prop :=
  ∀ s : State, s.ts.state = .acquiring →
    let ok := fun p : Fin 4 => s.refs[p].state = .ready ∧ s.refs[p].fresh s.ts.raw = true
    let best := fun p : Fin 4 => ok p ∧ ∀ q, ok q → q ≠ p →
      s.refs[p].config.priority < s.refs[q].config.priority ∨
        s.refs[p].config.priority = s.refs[q].config.priority ∧ p < q
    (∀ p, best p → ∃ t, s.loseActive = t ∧ t.refs[p] = { s.refs[p] with state := .active, disputed := false } ∧
      (∀ q, q ≠ p → t.refs[q] = { s.refs[q] with disputed := false }) ∧
      t.ts = { s.ts with lockCount := 0, anchor := none } ∧ hasAlert .activeChanged t.ops.alerts = true) ∧
    ((∀ p, ¬ ok p) → ∃ t, s.loseActive = t ∧ t.ts = { s.ts with state := .unset, lockCount := 0, anchor := none } ∧
      ∀ q : Fin 4, t.refs[q] = { s.refs[q] with disputed := false })

/-- A mark of a READY reference while another is ACTIVE (R43 to R45). Out of service it serves its record alone. In service it is voted
on: its disputed standing is set where |θ − S| exceeds the cross limit, with REFERENCE_DISPUTE where it was clear, and cleared
otherwise; that S is read in whole ns is the model's choice: assumption 5. Once that leaves two or more READY references disputed, every
pair agreeing within the cross limit, the ACTIVE one is FAILED as OUTVOTED, every disputed standing is cleared and the timescale is in
HOLDOVER with S and r kept. Else, in LOCKED with the revertive flag set, a better reference that is eligible at the mark becomes ACTIVE:
the old one is READY, every disputed standing is cleared, and the mark is applied with no step and no frequency update (R17, R40). In
every other case the vote is all it does. -/
def Obligations.AgreeingDisputersOutvoteTheActive : Prop :=
  ∀ (p a : Fin 4) (m : Mark) (θ : Int) (s : State), s.refs[p].state = .ready → s.refs[a].state = .active →
    (∀ q : Fin 4, s.refs[q].state = .active → q = a) →
    let far := s.ops.limits.crossLimit < (θ - s.ts.slew.tdiv 1000000000000).natAbs
    let v := { s with
      refs := s.refs.set p { s.refs[p] with disputed := decide far }
      ops := if far ∧ s.refs[p].disputed = false then { s.ops with alerts := addAlert .referenceDispute s.ops.alerts }
             else s.ops }
    let disputer := fun q : Fin 4 => v.refs[q].state = .ready ∧ v.refs[q].disputed = true
    let outvoted := (∃ q q', q ≠ q' ∧ disputer q ∧ disputer q') ∧
      ∀ q q', disputer q → disputer q' → ∃ x y, v.refs[q].lastTheta = some x ∧ v.refs[q'].lastTheta = some y ∧
        (x.1 - y.1).natAbs ≤ s.ops.limits.crossLimit
    let wins := s.ops.limits.revertive = true ∧ s.ts.state = .locked ∧ ¬ far ∧
      (∃ x, s.refs[p].lastTheta = some x ∧ x.1.natAbs ≤ s.ops.limits.acceptLimit) ∧
      (s.refs[p].config.priority < s.refs[a].config.priority ∨
        s.refs[p].config.priority = s.refs[a].config.priority ∧ p < a)
    (s.inService = false → s.passOn p m θ = s) ∧
    (s.ts.state = .locked → outvoted →
      ∃ t, s.passOn p m θ = t ∧ t.refs[a].state = .failed ∧ t.refs[a].cause = some .outvoted ∧
        (∀ q : Fin 4, t.refs[q].disputed = false) ∧ (∀ q : Fin 4, q ≠ a → t.refs[q].state = s.refs[q].state) ∧
        t.ts = { s.ts with state := .holdover, lockCount := 0, anchor := none } ∧
        hasAlert .referenceFailed t.ops.alerts = true ∧ hasAlert .holdoverEntered t.ops.alerts = true ∧
        (far → s.refs[p].disputed = false → hasAlert .referenceDispute t.ops.alerts = true)) ∧
    (s.inService = true → ¬ outvoted → ¬ wins → s.passOn p m θ = v) ∧
    (¬ outvoted → wins →
      ∃ t, s.passOn p m θ = t ∧ t.refs[p] = { s.refs[p] with state := .active, disputed := false } ∧
        t.refs[a] = { s.refs[a] with state := .ready, disputed := false } ∧
        (∀ q, q ≠ p → q ≠ a → t.refs[q] = { s.refs[q] with disputed := false }) ∧
        t = { v with
          refs := t.refs
          ts := { s.ts with
            lockCount := 0, slew := θ * unit, anchor := some (p, m.rawMark), lastMark := some (m.uRef, m.tMark) }
          trace := { s.trace with interval := { s.trace.interval with
            switches := min 65535 (s.trace.interval.switches + 1) } }
          ops := { s.ops with alerts := addAlert .activeChanged s.ops.alerts }
          retained := { s.retained with savedRate := s.ts.rate, valid := true } })


/-- ARM_REFERENCE and DISABLE_REFERENCE (R34, R35): arming forgets what a DISABLED or FAILED reference had learned, puts it
in QUALIFYING and starts its silence timer, and is refused in the other states; disabling stops a reference in any state and
keeps what it learned, with no REFERENCE_FAILED; that of the ACTIVE one is its loss (R39), which in ACQUIRING is what
LossInAcquiringReplacesOrUnsets says, and in LOCKED a holdover entry (R15). -/
def Obligations.ArmAndDisableReference : Prop :=
  ∀ (dt : Nat) (src : Source) (p : Fin 4) (s : State) (r : Taken), s.power = .running →
    ((s.elapse dt).taken .armReference src = some r → field 0 1 r.payload = p.val →
      (s.refs[p].state = .disabled ∨ s.refs[p].state = .failed →
        exec (.armReference dt src) s = .next (r.reply .armReference (.done .empty) { r.state with
          refs := r.state.refs.set p { s.refs[p] with
            state := .qualifying, cause := none, lastPhi := none, lastRaw := none, lastTheta := none, good := 0
            rejects := 0, disputed := false, pulse := none, collecting := false, silence := some (s.elapse dt).ts.raw } })) ∧
      (s.refs[p].state = .qualifying ∨ s.refs[p].state = .ready ∨ s.refs[p].state = .active →
        exec (.armReference dt src) s = .next (r.reply .armReference (.plain .wrongState) r.state))) ∧
    ((s.elapse dt).taken .disableReference src = some r → field 0 1 r.payload = p.val →
      let off := { s.refs[p] with state := .disabled, pulse := none, collecting := false, silence := none }
      (s.refs[p].state = .disabled ∨ s.refs[p].state = .qualifying ∨ s.refs[p].state = .failed →
        exec (.disableReference dt src) s = .next (r.reply .disableReference (.done .empty)
          { r.state with refs := r.state.refs.set p off })) ∧
      (s.refs[p].state = .ready →
        exec (.disableReference dt src) s = .next (r.reply .disableReference (.done .empty)
          { r.state with refs := r.state.refs.set p { off with disputed := false } })) ∧
      (s.refs[p].state = .active →
        ∃ e, exec (.disableReference dt src) s = .next (r.reply .disableReference (.done .empty) e) ∧
          e = State.loseActive { r.state with refs := r.state.refs.set p off } ∧
          (hasAlert .referenceFailed s.ops.alerts = false → hasAlert .referenceFailed e.ops.alerts = false) ∧
          (s.ts.state = .locked →
            e.ts = { r.state.ts with state := .holdover, lockCount := 0, anchor := none } ∧
            e.refs[p] = { off with disputed := false } ∧ e.slots = s.slots ∧ e.lanes = r.state.lanes ∧
            e.trace.interval.holdovers = min 65535 (s.trace.interval.holdovers + 1) ∧
            hasAlert .holdoverEntered e.ops.alerts = true)))

/-- SET_REFERENCE and READ_REFERENCE (R33, R36): the configuration is written only while DISABLED and only whole; the read
reports the record with the device limits and the timescale settings, and changes nothing. That the reply to SET_REFERENCE carries the
whole configuration, the fields not read at that port among it, is the model's choice: assumption 25. -/
def Obligations.SetAndReadReference : Prop :=
  ∀ (dt : Nat) (src : Source) (p : Fin 4) (s : State) (r : Taken), s.power = .running → field 0 1 r.payload = p.val →
    ((s.elapse dt).taken .setReference src = some r →
      ∀ c, decodeRefConfig p s.refs[p].config r.payload = some c →
      (s.refs[p].state ≠ .disabled →
        exec (.setReference dt src) s = .next (r.reply .setReference (.plain .wrongState) r.state)) ∧
      (s.refs[p].state = .disabled → c.ok = false →
        exec (.setReference dt src) s = .next (r.reply .setReference (.plain .range) r.state)) ∧
      (s.refs[p].state = .disabled → c.ok = true →
        exec (.setReference dt src) s = .next (r.reply .setReference (.done (.refConfig p c))
          { r.state with refs := r.state.refs.set p { s.refs[p] with config := c } }))) ∧
    ((s.elapse dt).taken .readReference src = some r →
      exec (.readReference dt src) s = .next (r.reply .readReference
        (.done (.reference (s.refs[p].report p) s.ops.limits s.ts.settings)) r.state))

/-- RESYNC (R19, R20, R41): refused out of service or with a live call; else the best by (priority, port) of the READY references and
the ACTIVE one, whatever its θ, its standing or its age, is the ACTIVE reference of an ACQUIRING timescale, and is the port of the
reply; another that was ACTIVE returns to READY, and ACTIVE_CHANGED is raised and one switch counted where the choice was not ACTIVE
before (R42). With no candidate the timescale is UNSET and the reply gives no port. Either way S is 0, the anchor absent, the lock count
0, r and the last applied mark kept, exchange time not moved, the grade UNTRACED and every disputed standing clear. -/
def Obligations.ResyncLeavesServiceForAReference : Prop :=
  ∀ (dt : Nat) (src : Source) (s : State) (r : Taken), s.power = .running → (s.elapse dt).taken .resync src = some r →
    (s.inService = false → exec (.resync dt src) s = .next (r.reply .resync (.plain .notInService) r.state)) ∧
    (s.inService = true → s.anyLive = true →
      exec (.resync dt src) s = .next (r.reply .resync (.plain .wrongPhase) r.state)) ∧
    (s.inService = true → s.anyLive = false → (∀ p q : Fin 4, s.refs[p].state = .active → s.refs[q].state = .active → p = q) →
      let candidate := fun p : Fin 4 => s.refs[p].state = .ready ∨ s.refs[p].state = .active
      let best := fun p : Fin 4 => candidate p ∧ ∀ q, candidate q → q ≠ p →
        s.refs[p].config.priority < s.refs[q].config.priority ∨
          s.refs[p].config.priority = s.refs[q].config.priority ∧ p < q
      let left := fun (st : TimescaleState) (refs : Vector RefRecord 4) (interval : Evidence) (alerts : AlertSet) =>
        { r.state with
          refs := refs, ts := { r.state.ts with state := st, slew := 0, anchor := none, lockCount := 0 }
          trace := { r.state.trace with dg := .untraced, interval := interval }
          ops := { r.state.ops with
            alerts := if s.trace.dg = .untraced then alerts else addAlert .gradeChange alerts } }
      (∀ p, best p → ∃ refs : Vector RefRecord 4,
        refs[p] = { s.refs[p] with state := .active, disputed := false } ∧
        (∀ q, q ≠ p → refs[q] = { s.refs[q] with
          disputed := false, state := if s.refs[q].state = .active then .ready else s.refs[q].state }) ∧
        exec (.resync dt src) s = .next (r.reply .resync (.done (.resync .acquiring (some p)))
          (if s.refs[p].state = .active then left .acquiring refs s.trace.interval s.ops.alerts
           else left .acquiring refs
             { s.trace.interval with switches := min 65535 (s.trace.interval.switches + 1) }
             (addAlert .activeChanged s.ops.alerts)))) ∧
      ((∀ p, ¬ candidate p) → exec (.resync dt src) s = .next (r.reply .resync (.done (.resync .unset none))
        (left .unset (s.refs.map fun x => { x with disputed := false }) s.trace.interval s.ops.alerts))))


/-- The third law (R22): at most one reference is ACTIVE, and one is exactly in ACQUIRING and LOCKED; every step keeps it. -/
def Obligations.OneActiveReferenceExactlyWhenFollowing : Prop :=
  ∀ s t : State, s.thirdLaw → step s = .next t → t.thirdLaw

/-- Width extension gives the count congruent to v modulo 2^w that is nearest to P, the lower of two at equal distance (R25); the
conversion of a Gray code of w digits undoes the Gray coding of every number of w digits (R24). -/
def Obligations.CodesConvertAndExtendToTheNearestSecond : Prop :=
  (∀ (w v : Nat) (p : Int), v < 2 ^ w →
     nearestCount w v p % 2 ^ w = v ∧
     ∀ y : Int, y % 2 ^ w = v →
       (nearestCount w v p - p).natAbs ≤ (y - p).natAbs ∧
       ((nearestCount w v p - p).natAbs = (y - p).natAbs → nearestCount w v p ≤ y)) ∧
  (∀ w v : Nat, v < 2 ^ w → grayDecode (v ^^^ (v >>> 1)) w false 0 = v)

/-! ### Traceability (chapter 3) -/

/-- Out of service the bound is saturated whatever the instant, the slew and the last applied mark; a stamp bound built on it and
the worst U of a sample are saturated too, and it grades UNTRACED under any thresholds (R48). -/
def Obligations.BoundIsSaturatedOutOfService : Prop :=
  ∀ (s : State) (t : Nat), s.ts.state = .unset ∨ s.ts.state = .acquiring →
    s.bound t = 4294967295 ∧
    (∀ n d, stampBound (s.bound t) n d = 4294967295) ∧
    (s.trace.interval.worstU ≤ 4294967295 → (s.sampleAt t).trace.interval.worstU = 4294967295) ∧
    (s.trace.settings.ok = true → plainGrade s.trace.settings (s.bound t) = .untraced ∧ (s.evaluate t).trace.dg = .untraced)

/-- In service the bound is u_ref + |S| + h1 + h2 + 2, each growth term held and the sum held, with the age of the last applied
mark in whole ms, 0 where the mark is the later (R49, R50). That |S| is read in whole ns is the model's choice: assumption 5. -/
def Obligations.BoundInServiceIsTheSumOfItsTerms : Prop :=
  ∀ (s : State) (t uRef mark : Nat), s.inService = true → s.ts.lastMark = some (uRef, mark) →
    let age := if t < mark then 0 else (t - mark) / 1000000
    let h1 := min 4294967295 (s.trace.settings.w * age / 1000000)
    let h2 := min 4294967295 (s.trace.settings.q * (age * age) / 2000000000)
    s.bound t = min 4294967295 (uRef + s.ts.slew.natAbs / 1000000000000 + h1 + h2 + 2)

/-- The evaluation of the device grade in service (R51, R52): above the held grade's threshold it falls to the plain grade; else
it is the best grade whose promotion limit the bound meets, and never worse than the one held. -/
def Obligations.DeviceGradeFallsAtOnceAndRisesWithHysteresis : Prop :=
  ∀ (ts : TraceSettings) (dg : Grade) (u : Nat),
    (∀ g, ts.threshold dg = some g → g < u → evalGrade ts true dg u = plainGrade ts u) ∧
    ((∀ g, ts.threshold dg = some g → u ≤ g) →
      let d := evalGrade ts true dg u
      d.rank ≤ dg.rank ∧
      (d ≠ dg → ∃ g, ts.threshold d = some g ∧ u ≤ g - g / 8) ∧
      ∀ (e : Grade) (g : Nat), e.rank < d.rank → ts.threshold e = some g → g - g / 8 < u)

/-- A trace sample at the next sample second (R57, R58): the worst U, the seconds counter of the grade after the evaluation, and
the next sample second, the first whole second after the exchange time; nothing else but DG and its alert. That a sample taken after its
second is computed for that second is the model's choice: assumption 22. -/
def Obligations.TraceSampleUpdatesTheInterval : Prop :=
  ∀ (dt : Nat) (s : State), s.power = .running →
    let u := s.elapse dt
    s.trace.nextSample ≤ u.ts.ns →
    let b := u.bound s.trace.nextSample
    let g := evalGrade s.trace.settings s.inService s.trace.dg b
    ∃ t, exec (.traceSample dt) s = .next t ∧
      t.trace = { s.trace with
        dg := g, nextSample := (u.ts.ns / 1000000000 + 1) * 1000000000
        interval := { s.trace.interval with
          worstU := max s.trace.interval.worstU b, seconds := s.trace.interval.seconds.bump g } } ∧
      t = { u with trace := t.trace, ops := { s.ops with
        alerts := if g = s.trace.dg then s.ops.alerts else addAlert .gradeChange s.ops.alerts } }

/-- SET_TRACE, TRACE_REPORT, CLOSE_INTERVAL and READ_TIME (R60, R61, R62, R89): the settings are written whole or not at all and evaluated
at once; the report evaluates at its instant and zeroes nothing; the close returns the interval and starts a new one at its instant
with no bound computed; the read reports the instant, U for it and DG after its evaluation, with no stamp issued or counted. The
model's choices: the report gives the request's instant as the interval's end time (assumption 13), and S in whole ns
(assumption 5). -/
def Obligations.TraceRequestsAndReadTime : Prop :=
  (∀ (dt : Nat) (src : Source) (s : State) (r : Taken), s.power = .running →
     ((s.elapse dt).taken .setTrace src = some r →
       let t : TraceSettings :=
         { w := field 0 4 r.payload, q := field 4 4 r.payload, gA := field 8 4 r.payload, gB := field 12 4 r.payload
           gC := field 16 4 r.payload }
       (t.ok = false → exec (.setTrace dt src) s = .next (r.reply .setTrace (.plain .range) r.state)) ∧
       (t.ok = true →
         let e := { r.state with trace := { r.state.trace with settings := t } }.evaluate r.instant
         exec (.setTrace dt src) s = .next (r.reply .setTrace (.done (.trace t e.trace.dg)) e))) ∧
     ((s.elapse dt).taken .traceReport src = some r →
       let e := r.state.evaluate r.instant
       exec (.traceReport dt src) s = .next (r.reply .traceReport (.done (.traceReport
         { state := s.ts.state
           activePort := if s.ts.state = .unset ∨ s.ts.state = .holdover then none else s.activePort
           dg := e.trace.dg, u := r.state.bound r.instant, slewNs := r.state.ts.slewNs, rate := s.ts.rate
           ageMs := if s.inService then s.ts.lastMark.map fun m => (r.instant - m.2) / 1000000 else none
           rateHeld := s.ts.rateHeld, disputed := (List.finRange 4).filter fun p => s.refs[p].disputed
           timescale := s.ts.settings, settings := s.trace.settings, interval := s.trace.interval
           endTime := r.instant })) e)) ∧
     ((s.elapse dt).taken .closeInterval src = some r →
       exec (.closeInterval dt src) s = .next (r.reply .closeInterval
         (.done (.interval s.trace.interval r.instant))
         { r.state with trace := { s.trace with interval :=
             { start := r.instant, worstU := 0, seconds := ⟨0, 0, 0, 0⟩, stamps := ⟨0, 0, 0, 0⟩, switches := 0
               holdovers := 0 } } }))) ∧
  (∀ (dt : Nat) (src : Source) (s : State) (r : Taken), s.power = .running → (s.elapse dt).taken .readTime src = some r →
     let u := r.state.bound r.instant
     let g := evalGrade s.trace.settings s.inService s.trace.dg u
     exec (.readTime dt src) s = .next (r.reply .readTime (.done (.time r.instant u g))
       { r.state with
         trace := { s.trace with dg := g }
         ops := if g = s.trace.dg then r.state.ops
                else { r.state.ops with alerts := addAlert .gradeChange s.ops.alerts } }))

/-- The fourth law (R20, R135): a call is live only in service. Out of service the device grade is UNTRACED, and in service a last applied
mark is present (R49, R51, R53). Every step keeps both. -/
def Obligations.OutOfServiceNothingIsLiveOrTraced : Prop :=
  ∀ s t : State, s.fourthLaw → s.gradeLaw → step s = .next t → t.fourthLaw ∧ t.gradeLaw

/-! ### Lanes (chapter 4) -/

/-- LINK_UP and LINK_DOWN (R65, R66, R101, R112): a DOWN lane comes UP, raises LANE_UP and starts its interval timer; an UP
lane goes DOWN, loses its queues, its window, its probe and its timers, raises LANE_DOWN, and CALIBRATION_LOST where it was
CALIBRATED. A report that changes nothing leaves time alone to pass. -/
def Obligations.LinkUpAndLinkDown : Prop :=
  ∀ (dt : Nat) (l : Fin 16) (s : State), s.power = .running →
    let u := s.elapse dt
    let n := s.lanes[l]
    (n.up = true → exec (.linkUp dt l) s = .next u) ∧
    (n.up = false → exec (.linkUp dt l) s = .next ({ u with lanes := u.lanes.set l { n with
      up := true
      intervalDue := if n.settings.probeInterval = 0 then none
                     else some (u.ts.raw + n.settings.probeInterval * 1000000) } }.raise .laneUp)) ∧
    (n.up = false → exec (.linkDown dt l) s = .next u) ∧
    (n.up = true →
      let e := { u with lanes := u.lanes.set l { n with
        up := false, queue := [], tx := [], rxLatch := none, window := [], probe := none, lastExpired := none
        intervalDue := none, echoDue := none
        derived := { standing := .none, c := min n.settings.c0 s.ops.limits.cmax
                     u := s.ops.limits.cmax + n.settings.asymmetry, overCap := false } } }
      exec (.linkDown dt l) s = .next
        (if n.derived.standing = .calibrated then (e.raise .calibrationLost).raise .laneDown else e.raise .laneDown))

/-- Frames at an UP lane (R67 to R71, R78): the latch is the exchange time of the start delimiter; at its end a frame with a line error
or no good check and length is counted and dropped, an ECHO goes to the calibration logic, and a request is what the command of its kind
says of its end (UNKNOWN_KIND where it has none); one of more than 248 payload bytes is counted and dropped there too. It joins the queue with its latch while requests wait or the reply share is full, and
is an overrun where the queue holds eight; with an empty queue and a free reply entry it is taken at once. The head of the transmit queue
leaves and frees its entry, a probe once it has departed; where it was a reply, one waiting request is taken at once, checked for form and
role and answered by its block, and its reply joins. That a second start delimiter takes the latch anew is the model's choice: assumption
21; that a request's command is the end of its frame is the model's reading of the table: assumption 4. -/
def Obligations.FramesAreLatchedCheckedQueuedAndSent : Prop :=
  (∀ (dt : Nat) (l : Fin 16) (bytes : List Byte) (err : Bool) (s : State), s.power = .running → s.lanes[l].up = true →
     let u := s.elapse dt
     let n := s.lanes[l]
     exec (.startDelimiter dt l) s = .next { u with lanes := u.lanes.set l { n with rxLatch := some u.ts.ns } } ∧
     ∀ latch, n.rxLatch = some latch →
       let dropped := { u with lanes := u.lanes.set l { n with
         rxLatch := none, counts := { n.counts with frameErrors := min 65535 (n.counts.frameErrors + 1) } } }
       (err = true ∨ parseFrame bytes = none → exec (.frameEnd dt l bytes err) s = .next dropped) ∧
       (∀ tag payload, 248 < payload.length →
         (∀ c k, c.request = some (.lane l tag payload, k) → c.dt = dt → exec c s = .next dropped) ∧
         (∀ kind, exec (.unknownKind dt (.lane l tag payload) kind) s = .next dropped) ∧
         exec (.echo dt (.lane l) tag payload) s = .next dropped) ∧
       ∀ f, err = false → parseFrame bytes = some f →
         (f.kind = 4 → exec (.frameEnd dt l bytes err) s = exec (.echo dt (.lane l) f.tag f.payload) s) ∧
         (∀ c k, c.request = some (.lane l f.tag f.payload, k) → f.kind = k.byte → c.dt = dt →
           exec (.frameEnd dt l bytes err) s = exec c s) ∧
         ((∀ k : Kind, f.kind ≠ k.byte) →
           exec (.frameEnd dt l bytes err) s = exec (.unknownKind dt (.lane l f.tag f.payload) f.kind) s) ∧
         (f.kind ≠ 4 → n.queue.length < 8 → n.queue ≠ [] ∨ 8 ≤ n.replies →
           exec (.frameEnd dt l bytes err) s = .next { u with lanes := u.lanes.set l { n with
             rxLatch := none
             queue := n.queue ++ [{ latch, kind := f.kind, tag := f.tag, payload := f.payload }] } }) ∧
         (f.kind ≠ 4 → 8 ≤ n.queue.length →
           exec (.frameEnd dt l bytes err) s = .next { u with lanes := u.lanes.set l { n with
             rxLatch := none, counts := { n.counts with overruns := min 65535 (n.counts.overruns + 1) } } })) ∧
  (∀ (dt : Nat) (l : Fin 16) (f : TxFrame) (rest : List TxFrame) (s : State), s.power = .running →
     s.lanes[l].up = true → s.lanes[l].tx = f :: rest →
     (∀ tag p, f = .probe tag → s.lanes[l].probe = some p → p.tag = tag → p.departed.isSome = true) →
     let u := s.elapse dt
     let n := { s.lanes[l] with tx := rest, linkOut := some f.bytes }
     ((∀ r, f ≠ .reply r) ∨ n.queue = [] → exec (.frameLeaves dt l) s = .next { u with lanes := u.lanes.set l n }) ∧
     ∀ r q waiting, f = .reply r → n.queue = q :: waiting → n.replies < 8 →
       let v := { u with lanes := u.lanes.set l { n with queue := waiting } }
       let answered := fun (x : State × Answer) => exec (.frameLeaves dt l) s = .next (x.1.onLane l (Lane.join
         (.reply { kind := q.kind, tag := q.tag, code := x.2.code, ind := x.2.ind, body := x.2.body })))
       ((∀ k : Kind, q.kind = k.byte → k.allows (.lane l) q.payload.length = false) → answered (v, .plain .badForm)) ∧
       ∀ k : Kind, q.kind = k.byte → k.allows (.lane l) q.payload.length = true →
         (n.settings.roles.allow k = false → answered (v, .plain .noRight)) ∧
         (n.settings.roles.allow k = true → answered (k.block (.lane l) q.latch q.payload v)))

/-- A request of a known kind and a right length whose role the lane lacks, or that the operations port alone may issue, is refused
NO_RIGHT with no other effect (R73); so are STAMP, STAMP_KEYED, CALIBRATE and ECHO at the port, where each is taken (R152, R153). A
whole request of an unknown kind, or of a length its kind does not allow on its path, is refused BAD_FORM with no other effect; the kinds
the part itself sends are no request kinds (R72, R153, R169). -/
def Obligations.RequestsWithoutRightOrFormAreRefused : Prop :=
  (∀ (c : Instr) (k : Kind) (s : State), s.power = .running →
     (∀ l tag payload latch, c.request = some (.lane l tag payload, k) → s.lanes[l].up = true →
       s.lanes[l].rxLatch = some latch → s.lanes[l].queue = [] → s.lanes[l].replies < 8 →
       k.allows (.lane l) payload.length = true → s.lanes[l].settings.roles.allow k = false →
       let u := s.elapse c.dt
       exec c s = .next { u with lanes := u.lanes.set l { s.lanes[l] with
         rxLatch := none
         tx := s.lanes[l].tx ++ [.reply { kind := k.byte, tag, code := .noRight, ind := .clear, body := .empty }] } }) ∧
     (∀ tag payload, c.request = some (.ops tag payload, k) → s.ops.spi = some 165 → s.ops.reply = none →
       k ∈ [Kind.stamp, .stampKeyed, .calibrate, .echo] → k.allows .ops payload.length = true →
       let u := s.elapse c.dt
       exec c s = .next { u with ops := { s.ops with
         lastWrite := .taken, spi := none
         reply := some { kind := k.byte, tag, code := .noRight, ind := .clear, body := .empty } } })) ∧
  (∀ (dt : Nat) (kind : Byte) (s : State), s.power = .running →
     let u := s.elapse dt
     let bad := fun (p : Path) (n : Nat) => ∀ k : Kind, kind = k.byte → k.allows p n = false
     (∀ l tag payload latch, s.lanes[l].up = true → s.lanes[l].rxLatch = some latch → s.lanes[l].queue = [] →
       s.lanes[l].replies < 8 → kind ≠ 4 → payload.length ≤ 248 → bad (.lane l) payload.length →
       exec (.unknownKind dt (.lane l tag payload) kind) s = .next { u with lanes := u.lanes.set l { s.lanes[l] with
         rxLatch := none
         tx := s.lanes[l].tx ++ [.reply { kind, tag, code := .badForm, ind := .clear, body := .empty }] } }) ∧
     (∀ tag payload, s.ops.spi = some 165 → s.ops.reply = none → payload.length ≤ 248 → bad .ops payload.length →
       exec (.unknownKind dt (.ops tag payload) kind) s = .next { u with ops := { s.ops with
         lastWrite := .taken, spi := none
         reply := some { kind, tag, code := .badForm, ind := .clear, body := .empty } } }) ∧
     ∀ p n, 128 ≤ kind.toNat → bad p n)


/-- LANE_STATUS (R81, R109, R112): the lane's window is used, which drops the samples older than the age limit, derives the lane's
figures from what is left and raises CALIBRATION_LOST where a CALIBRATED lane is left with three or fewer (`State.windowUsed`); the record
is reported as it then stands, before the reply joins; at the port the clear choice zeroes the five counts after they are reported. -/
def Obligations.LaneStatusReportsAndMayClear : Prop :=
  ∀ (dt : Nat) (src : Source) (s : State) (r : Taken), s.power = .running → (s.elapse dt).taken .laneStatus src = some r →
    (∀ l, r.path = .lane l →
      let e := r.state.windowUsed l
      exec (.laneStatus dt src) s = .next (r.reply .laneStatus (.done (.laneStatus (e.lanes[l].report l))) e)) ∧
    (∀ l : Fin 16, r.path = .ops → field 0 1 r.payload = l.val →
      let e := r.state.windowUsed l
      (field 1 1 r.payload = 0 →
        exec (.laneStatus dt src) s = .next (r.reply .laneStatus (.done (.laneStatus (e.lanes[l].report l))) e)) ∧
      (field 1 1 r.payload = 1 →
        exec (.laneStatus dt src) s = .next (r.reply .laneStatus (.done (.laneStatus (e.lanes[l].report l)))
          { e with lanes := e.lanes.set l { e.lanes[l] with
              counts := { frameErrors := 0, overruns := 0, noticesLost := 0, lateEchoes := 0, badEchoes := 0 } } }))) ∧
    (r.path = .ops → 16 ≤ field 0 1 r.payload →
      exec (.laneStatus dt src) s = .next (r.reply .laneStatus (.plain .range) r.state))

/-- SET_LANE (R74, R101, R113, R155): every setting is written at once in either link state and the interval timer started afresh,
with the rest of the lane as it was; a lane number above 15 or a value out of range writes nothing. -/
def Obligations.SetLaneWritesTheSettingsAlone : Prop :=
  ∀ (dt : Nat) (src : Source) (s : State) (r : Taken), s.power = .running → (s.elapse dt).taken .setLane src = some r →
    (16 ≤ field 0 1 r.payload ∨ decodeLaneSettings s.ops.limits.cmax r.payload = none →
      exec (.setLane dt src) s = .next (r.reply .setLane (.plain .range) r.state)) ∧
    (∀ (l : Fin 16) c, field 0 1 r.payload = l.val → decodeLaneSettings s.ops.limits.cmax r.payload = some c →
      exec (.setLane dt src) s = .next (r.reply .setLane (.done (.lane l c)) { r.state with
        lanes := r.state.lanes.set l { s.lanes[l] with
          settings := c
          intervalDue := if s.lanes[l].up = true ∧ c.probeInterval ≠ 0
                         then some ((s.elapse dt).ts.raw + c.probeInterval * 1000000) else none } }))

/-- A lane's queues and shares stay within eight entries each and its window within eight samples; requests wait only while the reply
share is full, since each is taken as soon as it can be; and a lane that is DOWN holds nothing in flight. Every step keeps it (R66, R70,
R71, R77, R78, R108). -/
def Obligations.LaneQueuesStayWithinTheirShares : Prop :=
  ∀ s t : State, s.lanesWf → step s = .next t → t.lanesWf

/-! ### Dating (chapter 5) -/

/-- STAMP (R83 to R88, R54, R55, R109, R112): the lane's window is used, which drops the samples older than the age limit, derives the
lane's figures from what is left and raises CALIBRATION_LOST where a CALIBRATED lane is left with three or fewer (`State.windowUsed`);
then the stamp time, sequence, bound, grade and indications, and the lane's fields, the grade counter and DG that it writes. The first
clause names that dating, which STAMP_KEYED shares, and the second says all it does. A last stamp at 2^63 − 1 is refused RANGE (R85); that the refusal
leaves the window unaged and DG unevaluated is the model's choice: assumption 12. -/
def Obligations.StampIsDatedClampedAndGraded : Prop :=
  (∀ (dt : Nat) (l : Fin 16) (tag : Tag) (payload : List Byte) (s : State) (r : Taken), s.power = .running →
    (s.elapse dt).taken .stamp (.lane l tag payload) = some r →
    let run := exec (.stamp dt (.lane l tag payload)) s
    (s.lanes[l].lastStamp = some maxNs → run = .next (r.reply .stamp (.plain .range) r.state)) ∧
    ((∀ x, s.lanes[l].lastStamp = some x → x < maxNs) →
      let d := r.state.dateStamp l r.instant
      run = .next (r.reply .stamp { code := .done, ind := d.2.2, body := .stamp d.2.1 } d.1))) ∧
  (∀ (l : Fin 16) (latch : Nat) (s : State),
    let a := s.windowUsed l
    let n := a.lanes[l]
    let t0 := latch - n.derived.c
    let t := match s.lanes[l].lastStamp with
      | some x => if t0 ≤ x then x + 1 else t0
      | none => t0
    let b := min 4294967295 (s.bound latch + n.derived.u + (t - t0))
    let dg := evalGrade s.trace.settings s.inService s.trace.dg (s.bound latch)
    let g := if (plainGrade s.trace.settings b).rank ≤ dg.rank then dg else plainGrade s.trace.settings b
    let e := (a.onLane l fun n => { n with sequence := s.lanes[l].sequence + 1, lastStamp := some t }).evaluate latch
    s.dateStamp l latch =
      ({ e with trace := { e.trace with interval := { e.trace.interval with stamps := s.trace.interval.stamps.bump g } } },
       { lane := l, sequence := s.lanes[l].sequence + 1, time := t, bound := b, grade := g },
       { late := false
         held := decide (latch < n.derived.c) || decide (t ≠ t0) || n.derived.overCap
         degraded := !g.meets s.lanes[l].settings.required
         wrap := decide (s.lanes[l].sequence = 4294967295) }))

/-- STAMP_KEYED (R90 to R95): a key above 4,095 is refused RANGE before the stamp is formed; an unmapped key gives the stamp of STAMP
(`State.dateStamp`, which StampIsDatedClampedAndGraded says whole, the use of the window with it) and ruling NONE with no record read; a
mapped one first brings its call up to the stamp time, and then rules the stamp against the record as that leaves it, with its revision,
and counts it there. Bringing a call up (R91): in CALL a time at or past T_sched opens the window
with a draw (assumption 7 for its value); in WINDOW, EXTENDED and TRACE_HOLD a time at or past T_end takes the end, which closes the call
or holds it by one step, and the time is held against the new end again; an earlier time, and every other phase, takes nothing. -/
def Obligations.KeyedStampIsAStampAndItsRuling : Prop :=
  (∀ (dt : Nat) (l : Fin 16) (tag : Tag) (payload : List Byte) (s : State) (r : Taken), s.power = .running →
    (s.elapse dt).taken .stampKeyed (.lane l tag payload) = some r →
    let run := exec (.stampKeyed dt (.lane l tag payload)) s
    let key := field 0 2 r.payload
    let d := r.state.dateStamp l r.instant
    let t := d.2.1.time
    (4095 < key → run = .next (r.reply .stampKeyed (.plain .range) r.state)) ∧
    (key ≤ 4095 → (∀ x, s.lanes[l].lastStamp = some x → x < maxNs) →
      (mapLookup key s.groupMap = none →
        run = .next (r.reply .stampKeyed { code := .done, ind := d.2.2, body := .stampKeyed d.2.1 none } d.1)) ∧
      ∀ i, mapLookup key s.groupMap = some i →
        let e := d.1.bringUp i t
        ∀ c, e.slots[i] = some c →
          run = .next (r.reply .stampKeyed
            { code := .done, ind := { d.2.2 with late := decide (c.rule t = .late) }
              body := .stampKeyed d.2.1 (some { slot := i, revision := c.revision, ruling := c.rule t }) }
            { e with slots := e.slots.set i (some (c.counted t)) }))) ∧
  (∀ (i : Fin 64) (t : Nat) (c : Call) (s : State), s.slots[i] = some c →
    let b := s.bringUp i t
    (c.phase = .scheduled ∨ c.phase = .settling ∨ c.phase = .uncrossDue ∨ c.phase = .cancelled → b = s) ∧
    (c.phase = .call →
      (t < c.tSched → b = s) ∧
      (c.tSched ≤ t →
        let d := Config.endDraw s.drawCount
        b = State.bringUp i t (State.commit i { c with
          phase := .window, draw := some d, tEnd := some (c.tSched + d.toNat * c.wr / 4294967296 * 1000) }
          { s with drawCount := s.drawCount + 1 }))) ∧
    (∀ e, c.phase = .window ∨ c.phase = .extended ∨ c.phase = .traceHold → c.tEnd = some e →
      (t < e → b = s) ∧
      (e ≤ t →
        let v := s.evaluate s.ts.ns
        let g := v.trace.dg
        (g.meets c.required = true →
          b = v.commit i { c with phase := .settling, closeGrade := some g, untracedFlag := some false }) ∧
        (g.meets c.required = false → c.holdMax ≤ c.holdsUsed →
          b = (v.commit i { c with
            phase := .settling, closeGrade := some g, untracedFlag := some true }).raise .auctionClosedUntraced) ∧
        (g.meets c.required = false → c.holdsUsed < c.holdMax →
          b = State.bringUp i t ((v.commit i { c with
            phase := .traceHold, tEnd := some (e + c.holdStep * 1000000)
            holdsUsed := c.holdsUsed + 1 }).raise .auctionTraceHold)))))


/-- The ruling of a keyed stamp by the phase, T_open and T_end of its record (R92), with the count that each ruling raises and, for an
IN_CALL in any phase, the latest in-call stamp, the greater of itself and t (R93); nothing else of the record changes. -/
def Obligations.RulingFollowsThePhaseAndTheTimes : Prop :=
  ∀ (t : Nat) (c : Call),
    let raised := fun n => min 4294967295 (n + 1)
    let inCall := c.rule t = .inCall ∧ ∃ x, c.counted t = { c with inCall := raised c.inCall, latestIn := some x } ∧
      t ≤ x ∧ (∀ y, c.latestIn = some y → y ≤ x) ∧ (x = t ∨ c.latestIn = some x)
    (c.phase = .scheduled → c.rule t = .preCall ∧ c.counted t = c) ∧
    (c.phase = .cancelled → c.rule t = .cancelled ∧ c.counted t = c) ∧
    (c.phase ≠ .cancelled → t < c.tOpen → c.rule t = .preCall ∧ c.counted t = c) ∧
    (c.tOpen ≤ t → c.phase = .call ∨ c.phase = .window ∨ c.phase = .extended ∨ c.phase = .traceHold →
      inCall) ∧
    (∀ e, c.tOpen ≤ t → c.tEnd = some e → c.phase = .settling →
      (t < e → inCall) ∧
      (e ≤ t → c.rule t = .late ∧ c.counted t = { c with late := raised c.late })) ∧
    (∀ e, c.tOpen ≤ t → c.tEnd = some e → c.phase = .uncrossDue →
      c.rule t = .late ∧
      (t < e → c.counted t = { c with stragglers := raised c.stragglers }) ∧
      (e ≤ t → c.counted t = { c with late := raised c.late }))

/-- The fifth law (R85, R86): a lane's sequence and last stamp change only where the lane takes a request that issues a stamp, at the end
of its frame or as a reply leaves (R71), by one and to a strictly greater time, until the run ends. -/
def Obligations.StampsOfALaneStrictlyIncrease : Prop :=
  ∀ (c : Instr) (s t : State) (l : Fin 16), c.restarts = false → exec c s = .next t →
    t.lanes[l].sequence = s.lanes[l].sequence ∧ t.lanes[l].lastStamp = s.lanes[l].lastStamp ∨
    (∃ dt, (∃ tag payload, c = .stamp dt (.lane l tag payload) ∨ c = .stampKeyed dt (.lane l tag payload)) ∨
        (∃ bytes err, c = .frameEnd dt l bytes err) ∨ c = .frameLeaves dt l) ∧
      t.lanes[l].sequence = s.lanes[l].sequence + 1 ∧
      ∃ y, t.lanes[l].lastStamp = some y ∧ ∀ x, s.lanes[l].lastStamp = some x → x < y


/-! ### Calibration (chapter 6) -/

/-- CALIBRATE and PROBE_INTERVAL_EXPIRY (R101, R102, R103): a probe with the next tag joins the notice share and becomes the outstanding
probe where none is outstanding and the share is not full; else CALIBRATE is BUSY and the expiry places nothing. The expiry restarts
the interval timer, and CALIBRATE leaves it. The departure of the outstanding probe latches the time and starts the echo timer on the
raw count (R104); the timer's expiry clears the probe and keeps its tag as the last expired, with no count and no change of the window
(R106). That an expiry taken after its due point restarts the timer from the instant of its taking is the model's choice: assumption 22. -/
def Obligations.ProbesArePlacedDepartAndTimeOut : Prop :=
  (∀ (dt : Nat) (l : Fin 16) (s : State), s.power = .running →
     let n := s.lanes[l]
     let u := s.elapse dt
     let free := n.probe = none ∧ n.notices < 8
     let placed := fun n : Lane => { n with
       tagCounter := n.tagCounter + 1, probe := some { tag := n.tagCounter, departed := none }
       tx := n.tx ++ [.probe n.tagCounter] }
     (∀ tag payload r, u.taken .calibrate (.lane l tag payload) = some r →
       let run := exec (.calibrate dt (.lane l tag payload)) s
       (free → run = .next (r.reply .calibrate (.done (.probeTag n.tagCounter)) (r.state.onLane l placed))) ∧
       (¬ free → run = .next (r.reply .calibrate (.plain .busy) r.state))) ∧
     (∀ due, n.up = true → n.intervalDue = some due → due ≤ u.ts.raw → n.settings.probeInterval ≠ 0 →
       let restarted := { n with intervalDue := some (u.ts.raw + n.settings.probeInterval * 1000000) }
       (free → exec (.probeIntervalExpiry dt l) s = .next { u with lanes := u.lanes.set l (placed restarted) }) ∧
       (¬ free → exec (.probeIntervalExpiry dt l) s = .next { u with lanes := u.lanes.set l restarted }))) ∧
  (∀ (dt : Nat) (l : Fin 16) (tag : Tag) (s : State), s.power = .running →
     let n := s.lanes[l]
     let u := s.elapse dt
     (∀ rest, n.up = true → n.tx = .probe tag :: rest → n.probe = some { tag, departed := none } →
       exec (.probeDeparture dt l) s = .next { u with lanes := u.lanes.set l { n with
         probe := some { tag, departed := some u.ts.ns }
         echoDue := some (u.ts.raw + n.settings.echoTimeout * 1000) } }) ∧
     (∀ due left, n.echoDue = some due → due ≤ u.ts.raw → n.probe = some { tag, departed := left } →
       exec (.echoTimeout dt l) s = .next { u with lanes := u.lanes.set l { n with
         probe := none, lastExpired := some tag, echoDue := none } }))

/-- A whole ECHO (R105, R108, R109): the echo of the departed probe clears it and appends half of the round trip less the
turnaround to the aged window, whose oldest of eight leaves, or, below 0, is a bad echo; an echo of the last expired tag is late;
any other, and one of a wrong length, is bad. (One of more than 248 payload bytes is no whole frame, R68:
FramesAreLatchedCheckedQueuedAndSent.) That a sample below 0 leaves the window unaged is the model's choice: assumption 11. -/
def Obligations.EchoIsClassifiedByItsTag : Prop :=
  ∀ (dt : Nat) (l : Fin 16) (tag : Tag) (payload : List Byte) (latch : Nat) (s : State), s.power = .running →
    s.lanes[l].up = true → s.lanes[l].rxLatch = some latch →
    let u := s.elapse dt
    let n : Lane := { s.lanes[l] with rxLatch := none }
    let bad := fun n : Lane => { n with counts := { n.counts with badEchoes := min 65535 (n.counts.badEchoes + 1) } }
    let late : Lane := { n with counts := { n.counts with lateEchoes := min 65535 (n.counts.lateEchoes + 1) } }
    (payload.length ≤ 248 → payload.length ≠ 2 →
      exec (.echo dt (.lane l) tag payload) s = .next { u with lanes := u.lanes.set l (bad n) }) ∧
    (∀ left, payload.length = 2 → n.probe = some { tag, departed := some left } →
      let x : Int := (latch : Int) - left - field 0 2 payload
      let cleared : Lane := { n with probe := none, echoDue := none }
      let aged := n.window.filter fun y => decide (u.ts.ns - y.taken ≤ n.settings.ageLimit * 1000000000)
      let w := (if aged.length < 8 then aged else aged.tail) ++ [{ d := (x / 2).toNat, taken := latch }]
      (x < 0 → exec (.echo dt (.lane l) tag payload) s = .next { u with lanes := u.lanes.set l (bad cleared) }) ∧
      (0 ≤ x →
        let after : Lane := { cleared with
          window := w, derived := derive s.ops.limits.cmax n.settings.c0 n.settings.asymmetry w }
        let e := { u with lanes := u.lanes.set l after }
        exec (.echo dt (.lane l) tag payload) s = .next
          (if n.derived.standing = .calibrated ∧ w.length < 4 then e.raise .calibrationLost else e))) ∧
    (payload.length = 2 → n.probe = some { tag, departed := none } →
      exec (.echo dt (.lane l) tag payload) s = .next { u with lanes := u.lanes.set l (bad n) }) ∧
    (payload.length = 2 → (∀ p, n.probe = some p → p.tag ≠ tag) → n.lastExpired = some tag →
      exec (.echo dt (.lane l) tag payload) s = .next { u with lanes := u.lanes.set l late }) ∧
    (payload.length = 2 → (∀ p, n.probe = some p → p.tag ≠ tag) → n.lastExpired ≠ some tag →
      exec (.echo dt (.lane l) tag payload) s = .next { u with lanes := u.lanes.set l (bad n) })

/-- What a window gives (R110, R111): below four samples the default compensation held to Cmax; from four on the smallest sample held to
Cmax, with half the spread, the allowance, and the excess over Cmax in u. The sixth law (R84, R111): the compensation derived at a use
of a window is at most Cmax as it stands then, so a stamp is at least its arrival latch less Cmax. -/
def Obligations.CompensationStaysWithinCmax : Prop :=
  (∀ (cmax c0 asymmetry : Nat) (w : List Sample),
     (w.length ≤ 3 → derive cmax c0 asymmetry w =
       { standing := if w = [] then .none else .partly, c := min c0 cmax, u := cmax + asymmetry, overCap := false }) ∧
     ∀ lo hi, 4 ≤ w.length → (∃ x ∈ w, x.d = lo) → (∃ x ∈ w, x.d = hi) → (∀ x ∈ w, lo ≤ x.d ∧ x.d ≤ hi) →
       derive cmax c0 asymmetry w =
         { standing := .calibrated, c := min lo cmax, u := (hi - lo) / 2 + asymmetry + (lo - cmax)
           overCap := decide (cmax < lo) }) ∧
  ((∀ (cmax c0 asymmetry : Nat) (w : List Sample), (derive cmax c0 asymmetry w).c ≤ cmax) ∧
   ∀ (c : Instr) (l : Fin 16) (latch : Nat) (s t : State), c.restarts = false →
     ((∀ dt, c ≠ .frameLeaves dt l) ∧ s.lanes[l].rxLatch = some latch ∨
       (∃ dt, c = .frameLeaves dt l) ∧ ∃ q waiting, s.lanes[l].queue = q :: waiting ∧ q.latch = latch) →
     exec c s = .next t → t.lanes[l].sequence ≠ s.lanes[l].sequence →
     ∃ y, t.lanes[l].lastStamp = some y ∧ latch ≤ y + s.ops.limits.cmax)

/-! ### The auction table and the group map (chapter 7) -/

/-- The addressing forms (R117, R118): SLOT and KEY name a slot or are refused; NEXT and PREV find the nearest slot that is not FREE
after or before the cursor, the cursor itself last, say whether the search wrapped, and move the cursor. A request refused at
resolution has no effect and carries no payload. -/
def Obligations.AddressingFormsResolveOrAreRefused : Prop :=
  (∀ (p : Path) (s : State) (n : Nat),
    (∀ i : Fin 64, n = i.val → s.resolve p (.slot n) = .ok (i, false, s)) ∧
    (64 ≤ n → s.resolve p (.slot n) = .error .range) ∧
    (4096 ≤ n → s.resolve p (.key n) = .error .range) ∧
    (n < 4096 → mapLookup n s.groupMap = none → s.resolve p (.key n) = .error .noRecord) ∧
    (∀ i, n < 4096 → mapLookup n s.groupMap = some i → s.resolve p (.key n) = .ok (i, false, s))) ∧
  (∀ (p : Path) (s : State),
    let c := s.cursorOf p
    ((∀ j : Fin 64, s.slots[j] = none) →
      s.resolve p .next = .error .noRecord ∧ s.resolve p .prev = .error .noRecord) ∧
    ∀ i : Fin 64, s.slots[i].isSome = true →
      ((∀ j : Fin 64, s.slots[j].isSome = true → (i - c - 1).val ≤ (j - c - 1).val) →
        s.resolve p .next = .ok (i, decide (i ≤ c), s.moveCursor p i)) ∧
      ((∀ j : Fin 64, s.slots[j].isSome = true → (c - 1 - i).val ≤ (c - 1 - j).val) →
        s.resolve p .prev = .ok (i, decide (c ≤ i), s.moveCursor p i))) ∧
  (∀ (i : Fin 64) (s : State),
    s.moveCursor .ops i = { s with ops := { s.ops with cursor := i } } ∧
    ∀ l : Fin 16, s.moveCursor (.lane l) i = { s with lanes := s.lanes.set l { s.lanes[l] with cursor := i } }) ∧
  (∀ (c : Instr) (k : Kind) (src : Source) (s : State) (r : Taken), s.power = .running → c.request = some (src, k) →
    k ∈ [Kind.queryAuction, .subscribe, .unsubscribe, .reschedule, .extend, .cancel, .retire] →
    (s.elapse c.dt).taken k src = some r →
    (decodeForm 0 r.payload = none → exec c s = .next (r.reply k (.plain .range) r.state)) ∧
    ∀ f code, decodeForm 0 r.payload = some f → r.state.resolve r.path f = .error code →
      exec c s = .next (r.reply k (.plain code) r.state))

/-- QUERY_AUCTION, SUBSCRIBE and UNSUBSCRIBE (R120, R129, R149): the snapshot gives the record as it stands, with T_end, the draw value,
the close grade and the untraced flag withheld before SETTLING, so that no QUERY_AUCTION tells two ends apart that have not been taken;
a subscription changes one lane's membership, and no revision. -/
def Obligations.QueriesAndSubscriptions : Prop :=
  (∀ (dt : Nat) (src : Source) (s e : State) (r : Taken) (i : Fin 64) (wrap : Bool), s.power = .running →
    (s.elapse dt).taken .queryAuction src = some r → r.resolved 0 = some (i, wrap, e) →
    ∃ q : Snapshot, exec (.queryAuction dt src) s = .next (r.reply .queryAuction (.doneWrap wrap (.snapshot q)) e) ∧
      q.slot = i ∧ q.keys = (s.groupMap.filter fun x => x.2 = i).length ∧ (s.slots[i] = none → q.call = none) ∧
      ∀ c, s.slots[i] = some c →
        (c.phase.endTold = true → q.call = some c) ∧
        (c.phase.endTold = false →
          q.call = some { c with tEnd := none, draw := none, closeGrade := none, untracedFlag := none })) ∧
  (∀ (dt : Nat) (src : Source) (s t : State) (i : Fin 64) (c : Call) (e : Option Nat) (d : Option (BitVec 32)),
    s.slots[i] = some c → c.phase.endTold = false → exec (.queryAuction dt src) s = .next t →
    exec (.queryAuction dt src) (s.withEnd i e d) = .next (t.withEnd i e d)) ∧
  (∀ (dt : Nat) (src : Source) (join : Bool) (s e : State) (r : Taken) (i : Fin 64) (wrap : Bool), s.power = .running →
    let k := if join then Kind.subscribe else .unsubscribe
    let x := if join then Instr.subscribe dt src else .unsubscribe dt src
    (s.elapse dt).taken k src = some r → r.resolved 0 = some (i, wrap, e) →
    (r.path = .ops → 16 ≤ field 3 1 r.payload →
      exec x s = .next (r.reply k ((Answer.plain .range).withWrap wrap) e)) ∧
    ∀ l : Fin 16, r.path = .lane l ∨ r.path = .ops ∧ field 3 1 r.payload = l.val →
      (s.slots[i] = none → exec x s = .next (r.reply k ((Answer.plain .wrongPhase).withWrap wrap) e)) ∧
      ∀ c, s.slots[i] = some c → ∃ set : LaneSet,
        exec x s = .next (r.reply k (.doneWrap wrap (.revision c.revision))
          { e with slots := e.slots.set i (some { c with notices := set }) }) ∧
        ∀ m : Fin 16, set.getLsbD m = if m = l then join else c.notices.getLsbD m)

/-- SCHEDULE (R121, R122, R168): a repeated key is BAD_FORM; a slot, a key or an encoding that names nothing is RANGE; then
an occupied slot, a T_open not after the arrival, a field out of range and a conflicting key refuse it, in that order. A call
that passes stands in its slot at revision 1 with its counts 0, its keys moved to it, its entry due at T_open, and its notice
set told. That the required grade UNTRACED is refused RANGE at the place of the range check is the model's choice: assumption 28. -/
def Obligations.ScheduleChecksThenFillsTheSlot : Prop :=
  ∀ (dt : Nat) (src : Source) (s : State) (r : Taken), s.power = .running → (s.elapse dt).taken .schedule src = some r →
    let keys := keyList (r.payload.drop 41)
    (¬ keys.Nodup → exec (.schedule dt src) s = .next (r.reply .schedule (.plain .badForm) r.state)) ∧
    (keys.Nodup → (∃ q, decodeSchedule r.payload = some q ∧ (64 ≤ q.slot ∨ ∃ k ∈ keys, 4096 ≤ k)) →
      exec (.schedule dt src) s = .next (r.reply .schedule (.plain .range) r.state)) ∧
    (keys.Nodup → decodeSchedule r.payload = none →
      exec (.schedule dt src) s = .next (r.reply .schedule (.plain .range) r.state)) ∧
    (∀ (q : ScheduleFields) (i : Fin 64), keys.Nodup → (∀ k ∈ keys, k < 4096) → decodeSchedule r.payload = some q →
      q.slot = i.val → q.required = none → s.slots[i] = none → r.instant < q.tOpen →
      exec (.schedule dt src) s = .next (r.reply .schedule (.plain .range) r.state)) ∧
    ∀ (q : ScheduleFields) (i : Fin 64) (required : Required), keys.Nodup → (∀ k ∈ keys, k < 4096) →
      decodeSchedule r.payload = some q → q.slot = i.val → q.required = some required →
      (s.slots[i].isSome = true → exec (.schedule dt src) s = .next (r.reply .schedule (.plain .wrongPhase) r.state)) ∧
      (s.slots[i] = none → q.tOpen ≤ r.instant →
        exec (.schedule dt src) s = .next (r.reply .schedule (.plain .past) r.state)) ∧
      (s.slots[i] = none → r.instant < q.tOpen → q.ok = false →
        exec (.schedule dt src) s = .next (r.reply .schedule (.plain .range) r.state)) ∧
      (s.slots[i] = none → r.instant < q.tOpen → q.ok = true →
        ∀ (before after : List Nat) (k : Nat) (j : Fin 64) (c : Call), keys = before ++ k :: after →
          mapLookup k s.groupMap = some j → s.slots[j] = some c → c.phase.holdsKeys = true →
          (∀ k' ∈ before, ∀ j' c', mapLookup k' s.groupMap = some j' → s.slots[j'] = some c' → c'.phase.holdsKeys = false) →
          exec (.schedule dt src) s = .next (r.reply .schedule
            { code := .conflict, ind := .clear, body := .keyConflict k j } r.state)) ∧
      (s.slots[i] = none → r.instant < q.tOpen → q.ok = true →
        (∀ k ∈ keys, ∀ j c, mapLookup k s.groupMap = some j → s.slots[j] = some c → c.phase.holdsKeys = false) →
        let c : Call :=
          { phase := .scheduled, revision := 1, tOpen := q.tOpen, tSched := q.tSched, wr := q.wr, tEnd := none
            draw := none, extMin := q.extMin, extMax := q.extMax, extCap := q.extCap, extUsed := 0
            holdStep := q.holdStep, holdMax := q.holdMax, holdsUsed := 0, required, notices := q.notices, inCall := 0
            late := 0, stragglers := 0, latestIn := none, closeGrade := none, untracedFlag := none, cancelCause := none }
        ∃ e, exec (.schedule dt src) s = .next (r.reply .schedule (.done (.slotRevision i 1)) e) ∧
          e = { r.state.handNotice q.notices (c.phaseNotice i) with
            slots := s.slots.set i (some c), groupMap := e.groupMap, expiry := e.expiry } ∧
          (∀ k, mapLookup k e.groupMap = if k ∈ keys then some i else mapLookup k s.groupMap) ∧
          expiryOf i e.expiry = some q.tOpen ∧ ∀ j, j ≠ i → expiryOf j e.expiry = expiryOf j s.expiry)

/-- RESCHEDULE of a record (R115, R123, R124, R168): in SCHEDULED and in CALL the fields present are written, with a stage
only where one of them changes; every other phase, a FREE slot, and every check that fails, refuses it with the record as it was. That a
time which the presence byte marks present and whose absent flag is set is refused RANGE is the model's choice: assumption 14. -/
def Obligations.RescheduleMovesTheTimes : Prop :=
  ∀ (dt : Nat) (src : Source) (s e : State) (r : Taken) (i : Fin 64) (wrap : Bool), s.power = .running →
    (s.elapse dt).taken .reschedule src = some r → r.resolved 0 = some (i, wrap, e) →
    let refused := fun code => exec (.reschedule dt src) s =
      .next (r.reply .reschedule ((Answer.plain code).withWrap wrap) e)
    (field 3 1 r.payload % 8 = 0 → refused .badForm) ∧
    (field 3 1 r.payload % 8 ≠ 0 → decodeChange r.payload = none → refused .range) ∧
    ∀ q, field 3 1 r.payload % 8 ≠ 0 → decodeChange r.payload = some q →
      (s.slots[i] = none → refused .wrongPhase) ∧
      ∀ c, s.slots[i] = some c →
        let c' := { c with tOpen := q.tOpen.getD c.tOpen, tSched := q.tSched.getD c.tSched, wr := q.wr.getD c.wr }
        let ranged := (∀ t, q.tOpen = some t → t ≤ 9223000000000000000) ∧
          (∀ t, q.tSched = some t → t ≤ 9223000000000000000) ∧ ∀ w, q.wr = some w → w ≤ 600000000
        let late := fun t => r.instant < t ∧ c.tOpen < t ∧ ∀ x, c.latestIn = some x → x < t
        let written :=
          (c' = c → exec (.reschedule dt src) s =
            .next (r.reply .reschedule (.doneWrap wrap (.revision c.revision)) e)) ∧
          (c' ≠ c → exec (.reschedule dt src) s =
            .next (r.reply .reschedule (.doneWrap wrap (.revision (c.revision + 1))) (e.commit i c')))
        (c.phase = .scheduled →
          ((∃ t, q.tOpen = some t ∧ t ≤ r.instant) → refused .past) ∧
          ((∀ t, q.tOpen = some t → r.instant < t) →
            (¬ ranged ∨ c'.tSched ≤ c'.tOpen → refused .range) ∧ (ranged → c'.tOpen < c'.tSched → written))) ∧
        (c.phase = .call →
          (q.tOpen.isSome = true → refused .wrongPhase) ∧
          (q.tOpen = none →
            (¬ (ranged ∧ ∀ t, q.tSched = some t → late t) → refused .range) ∧
            (ranged → (∀ t, q.tSched = some t → late t) → written))) ∧
        (c.phase ≠ .scheduled → c.phase ≠ .call → refused .wrongPhase)

/-- CANCEL, RETIRE, MAP_KEY and UNMAP_KEY (R125 to R128): each in the phases that allow it, and refused in the others and for
a FREE slot, with the end dropped that was not taken,
every key of a retired slot unmapped, and the other keys as they were. -/
def Obligations.CancelRetireAndTheKeys : Prop :=
  (∀ (dt : Nat) (src : Source) (s e : State) (r : Taken) (i : Fin 64) (wrap : Bool) (c : Call), s.power = .running →
    r.resolved 0 = some (i, wrap, e) → s.slots[i] = some c →
    ((s.elapse dt).taken .cancel src = some r →
      (c.phase = .uncrossDue ∨ c.phase = .cancelled →
        exec (.cancel dt src) s = .next (r.reply .cancel ((Answer.plain .wrongPhase).withWrap wrap) e)) ∧
      (c.phase ≠ .uncrossDue → c.phase ≠ .cancelled →
        exec (.cancel dt src) s = .next (r.reply .cancel (.doneWrap wrap (.revision (c.revision + 1)))
          (e.commit i { c with
            phase := .cancelled, cancelCause := some .request
            tEnd := if c.phase = .settling then c.tEnd else none
            draw := if c.phase = .settling then c.draw else none })))) ∧
    ((s.elapse dt).taken .retire src = some r →
      (c.phase ≠ .uncrossDue → c.phase ≠ .cancelled →
        exec (.retire dt src) s = .next (r.reply .retire ((Answer.plain .wrongPhase).withWrap wrap) e)) ∧
      (c.phase = .uncrossDue ∨ c.phase = .cancelled →
        exec (.retire dt src) s = .next (r.reply .retire
          (.doneWrap wrap (.unmapped (s.groupMap.filter fun x => x.2 = i).length))
          { e with slots := e.slots.set i none, groupMap := s.groupMap.filter fun x => x.2 ≠ i })))) ∧
  (∀ (dt : Nat) (src : Source) (s e : State) (r : Taken) (i : Fin 64) (wrap : Bool), s.power = .running →
    r.resolved 0 = some (i, wrap, e) → s.slots[i] = none →
    ((s.elapse dt).taken .cancel src = some r →
      exec (.cancel dt src) s = .next (r.reply .cancel ((Answer.plain .wrongPhase).withWrap wrap) e)) ∧
    ((s.elapse dt).taken .retire src = some r →
      exec (.retire dt src) s = .next (r.reply .retire ((Answer.plain .wrongPhase).withWrap wrap) e))) ∧
  (∀ (dt : Nat) (src : Source) (s e : State) (r : Taken) (i : Fin 64) (wrap : Bool), s.power = .running →
    (s.elapse dt).taken .mapKey src = some r →
    let k := field 0 2 r.payload
    let target := ∃ c, s.slots[i] = some c ∧ c.phase ≠ .uncrossDue ∧ c.phase ≠ .cancelled
    (4096 ≤ k → exec (.mapKey dt src) s = .next (r.reply .mapKey (.plain .range) r.state)) ∧
    (k < 4096 → r.resolved 2 = some (i, wrap, e) →
      (¬ target → exec (.mapKey dt src) s = .next (r.reply .mapKey ((Answer.plain .wrongPhase).withWrap wrap) e)) ∧
      (∀ j c, target → mapLookup k s.groupMap = some j → j ≠ i → s.slots[j] = some c → c.phase.holdsKeys = true →
        exec (.mapKey dt src) s = .next (r.reply .mapKey
          { code := .conflict, ind := { Indications.clear with wrap := wrap }, body := .heldSlot (some j) } e)) ∧
      (target →
        (∀ j c, mapLookup k s.groupMap = some j → j ≠ i → s.slots[j] = some c → c.phase.holdsKeys = false) →
        ∃ map, exec (.mapKey dt src) s = .next (r.reply .mapKey
            (.doneWrap wrap (.heldSlot (mapLookup k s.groupMap))) { e with groupMap := map }) ∧
          ∀ k', mapLookup k' map = if k' = k then some i else mapLookup k' s.groupMap))) ∧
  (∀ (dt : Nat) (src : Source) (s : State) (r : Taken), s.power = .running → (s.elapse dt).taken .unmapKey src = some r →
    let k := field 0 2 r.payload
    (4096 ≤ k → exec (.unmapKey dt src) s = .next (r.reply .unmapKey (.plain .range) r.state)) ∧
    (k < 4096 → mapLookup k s.groupMap = none →
      exec (.unmapKey dt src) s = .next (r.reply .unmapKey (.plain .noRecord) r.state)) ∧
    ∀ i, k < 4096 → mapLookup k s.groupMap = some i →
      ((∃ c, s.slots[i] = some c ∧ c.phase.live = true) →
        exec (.unmapKey dt src) s = .next (r.reply .unmapKey (.plain .wrongPhase) r.state)) ∧
      ((∀ c, s.slots[i] = some c → c.phase.live = false) →
        ∃ map, exec (.unmapKey dt src) s = .next (r.reply .unmapKey (.done (.heldSlot (some i)))
            { r.state with groupMap := map }) ∧
          ∀ k', mapLookup k' map = if k' = k then none else mapLookup k' s.groupMap))

/-! ### Closing-call timing (chapter 8) -/

/-- A stage of a call (R79, R115, R131, R145, R147): the revision rises by one, the slot's expiry entry stands where its phase has a due
time and at that time, and one PHASE_NOTICE joins the notice share of each UP lane of the notice set or is lost there and counted. -/
def Obligations.EveryStageRevisesRefilesAndNotifies : Prop :=
  ∀ (i : Fin 64) (c : Call) (s : State),
    let t := s.commit i c
    let n := TxFrame.phaseNotice
      { slot := i, phase := c.phase, revision := c.revision + 1, tOpen := c.tOpen, tSched := c.tSched
        cancelCause := c.cancelCause }
    let due := expiryOf i t.expiry
    t = { s with slots := s.slots.set i (some { c with revision := c.revision + 1 }), expiry := t.expiry, lanes := t.lanes } ∧
    (c.phase = .scheduled → due = some c.tOpen) ∧ (c.phase = .call → due = some c.tSched) ∧
    (c.phase = .window ∨ c.phase = .extended ∨ c.phase = .traceHold → due = c.tEnd) ∧
    (∀ e, c.phase = .settling → c.tEnd = some e → due = some (e + s.ops.limits.cmax + s.ops.limits.settleGuard)) ∧
    (c.phase = .uncrossDue ∨ c.phase = .cancelled → due = none) ∧
    (∀ j, j ≠ i → expiryOf j t.expiry = expiryOf j s.expiry) ∧
    ∀ l : Fin 16,
      (c.notices.getLsbD l = false ∨ s.lanes[l].up = false → t.lanes[l] = s.lanes[l]) ∧
      (c.notices.getLsbD l = true → s.lanes[l].up = true →
        (s.lanes[l].notices < 8 → t.lanes[l] = { s.lanes[l] with tx := s.lanes[l].tx ++ [n] }) ∧
        (8 ≤ s.lanes[l].notices → t.lanes[l] = { s.lanes[l] with counts := { s.lanes[l].counts with
          noticesLost := min 65535 (s.lanes[l].counts.noticesLost + 1) } }))

/-- The four expiries (R133 to R136, R142, R143, R146): a call opens in service and is cancelled out of it; its window opens with an end
drawn below T_sched + W_r, whatever value is drawn; its end closes it or holds it by one step; its settling ends with its notices. -/
def Obligations.ExpiriesMoveTheCallOn : Prop :=
  ∀ (dt : Nat) (i : Fin 64) (c : Call) (due : Nat) (s : State), s.power = .running → s.slots[i] = some c →
    let u := s.elapse dt
    expiryOf i s.expiry = some due → due ≤ u.ts.ns →
    (c.phase = .scheduled →
      (s.inService = true → exec (.openExpiry dt i) s = .next (u.commit i { c with phase := .call })) ∧
      (s.inService = false → exec (.openExpiry dt i) s = .next ((u.commit i { c with
        phase := .cancelled, cancelCause := some .missedOpen, tEnd := none, draw := none }).raise .auctionMissedOpen))) ∧
    (c.phase = .call →
      let d := Config.endDraw s.drawCount
      let offset := d.toNat * c.wr / 4294967296
      exec (.windowExpiry dt i) s = .next (State.commit i { c with
        phase := .window, draw := some d, tEnd := some (c.tSched + offset * 1000) } { u with drawCount := s.drawCount + 1 }) ∧
      (c.wr = 0 → offset = 0) ∧ (0 < c.wr → offset < c.wr)) ∧
    (∀ e, c.phase = .window ∨ c.phase = .extended ∨ c.phase = .traceHold → c.tEnd = some e →
      let v := u.evaluate u.ts.ns
      let g := evalGrade s.trace.settings s.inService s.trace.dg (u.bound u.ts.ns)
      v.trace.dg = g ∧
      (g.meets c.required = true → exec (.endExpiry dt i) s =
        .next (v.commit i { c with phase := .settling, closeGrade := some g, untracedFlag := some false })) ∧
      (g.meets c.required = false → c.holdMax ≤ c.holdsUsed → exec (.endExpiry dt i) s =
        .next ((v.commit i { c with
          phase := .settling, closeGrade := some g, untracedFlag := some true }).raise .auctionClosedUntraced)) ∧
      (g.meets c.required = false → c.holdsUsed < c.holdMax → exec (.endExpiry dt i) s =
        .next ((v.commit i { c with
          phase := .traceHold, tEnd := some (e + c.holdStep * 1000000)
          holdsUsed := c.holdsUsed + 1 }).raise .auctionTraceHold))) ∧
    (c.phase = .settling → exec (.settleExpiry dt i) s =
      .next ((u.commit i { c with phase := .uncrossDue }).handNotice c.notices (.closeNotice
        { slot := i, revision := c.revision + 1, tOpen := c.tOpen, tEnd := c.tEnd, draw := c.draw, inCall := c.inCall
          late := c.late, stragglers := c.stragglers, latestIn := c.latestIn, required := c.required
          closeGrade := c.closeGrade, untracedFlag := c.untracedFlag, extUsed := c.extUsed, holdsUsed := c.holdsUsed })))

/-- EXTEND of a record (R137 to R140). The length is held to the record's limits. The call is then brought up to the arrival: a T_sched
that it has reached opens the window, and an end that it has reached is taken, which closes the call on its grade or with its holds spent,
or holds it by one step, and the test is made again against what that leaves; otherwise nothing is taken. What that did stands, and the
request is judged against the record it left, with that record's revision: in CALL T_sched moves by the length; in WINDOW and EXTENDED a
fresh draw may move the end later and never earlier; with the extensions spent it is LIMIT; in TRACE_HOLD it is CALL_HELD, closed it is
TOO_LATE, and a record in SCHEDULED, CANCELLED or FREE is WRONG_PHASE. Whatever values are drawn: assumption 7. -/
def Obligations.ExtensionsNeverBringTheEndEarlier : Prop :=
  ∀ (dt : Nat) (src : Source) (s e : State) (r : Taken) (i : Fin 64) (wrap : Bool), s.power = .running →
    (s.elapse dt).taken .extend src = some r → r.resolved 0 = some (i, wrap, e) →
    let refused := fun (code : Code) (rev : BitVec 16) (t : State) => exec (.extend dt src) s = .next (r.reply .extend
      { code, ind := { Indications.clear with late := decide (code = .tooLate), wrap := wrap }
        body := .slotRevision i rev } t)
    (s.slots[i] = none → refused .wrongPhase 0 e) ∧
    ∀ c : Call, s.slots[i] = some c →
      let len := field 3 4 r.payload
      let applied := if len < c.extMin then c.extMin else if c.extMax < len then c.extMax else len
      let b := e.bringUp i r.instant
      let pending := c.phase = .window ∨ c.phase = .extended ∨ c.phase = .traceHold
      (c.phase = .scheduled ∨ c.phase = .settling ∨ c.phase = .uncrossDue ∨ c.phase = .cancelled → b = e) ∧
      (c.phase = .call →
        (r.instant < c.tSched → b = e) ∧
        (c.tSched ≤ r.instant →
          let d := Config.endDraw s.drawCount
          b = State.bringUp i r.instant (State.commit i { c with
            phase := .window, draw := some d, tEnd := some (c.tSched + d.toNat * c.wr / 4294967296 * 1000) }
            { e with drawCount := s.drawCount + 1 }))) ∧
      (∀ te, pending → c.tEnd = some te →
        (r.instant < te → b = e) ∧
        (te ≤ r.instant →
          let v := e.evaluate e.ts.ns
          let g := v.trace.dg
          (g.meets c.required = true →
            b = v.commit i { c with phase := .settling, closeGrade := some g, untracedFlag := some false }) ∧
          (g.meets c.required = false → c.holdMax ≤ c.holdsUsed →
            b = (v.commit i { c with
              phase := .settling, closeGrade := some g, untracedFlag := some true }).raise .auctionClosedUntraced) ∧
          (g.meets c.required = false → c.holdsUsed < c.holdMax →
            b = State.bringUp i r.instant ((v.commit i { c with
              phase := .traceHold, tEnd := some (te + c.holdStep * 1000000)
              holdsUsed := c.holdsUsed + 1 }).raise .auctionTraceHold)))) ∧
      ∃ c' : Call, b.slots[i] = some c' ∧
        let d := Config.endDraw b.drawCount
        let sched := r.instant + applied * 1000000
        let extended := fun (x : Call) (t : State) => exec (.extend dt src) s = .next (r.reply .extend
          { code := .done, ind := { Indications.clear with held := decide (applied ≠ len), wrap := wrap }
            body := .extended { slot := i, revision := c'.revision + 1, phase := x.phase, tSched := x.tSched
                                extUsed := c'.extUsed + 1, extCap := c'.extCap, applied } } (t.commit i x))
        (c'.phase = .call →
          (c'.extCap ≤ c'.extUsed → refused .limit c'.revision b) ∧
          (c'.extUsed < c'.extCap →
            extended { c' with tSched := c'.tSched + applied * 1000000, extUsed := c'.extUsed + 1 } b)) ∧
        (∀ te, c'.phase = .window ∨ c'.phase = .extended → c'.tEnd = some te →
          (c'.extCap ≤ c'.extUsed → refused .limit c'.revision b) ∧
          (c'.extUsed < c'.extCap →
            extended { c' with
              phase := .extended, tSched := sched, extUsed := c'.extUsed + 1, draw := some d
              tEnd := some (max te (sched + d.toNat * c'.wr / 4294967296 * 1000)) } { b with drawCount := b.drawCount + 1 })) ∧
        (c'.phase = .traceHold → refused .callHeld c'.revision b) ∧
        (c'.phase = .settling ∨ c'.phase = .uncrossDue → refused .tooLate c'.revision b) ∧
        (c'.phase = .scheduled ∨ c'.phase = .cancelled → refused .wrongPhase c'.revision b)

/-- The eighth, ninth and tenth laws (R94, R143), with the presence of T_end and the draw value (R114): of every record of the table,
and every step keeps them. -/
def Obligations.CallsKeepTheirEndsAndTheirHolds : Prop :=
  ∀ s t : State, (s.everyCall fun c => c.endPresent ∧ c.eighthLaw ∧ c.ninthLaw ∧ c.tenthLaw) → step s = .next t →
    t.everyCall fun c => c.endPresent ∧ c.eighthLaw ∧ c.ninthLaw ∧ c.tenthLaw

/-- The eleventh law (R116, R131): every mapped key refers to a slot that is not FREE, and the expiry list holds exactly the entries that
the phases have, at their due times; with the canonical forms of both lists, every step keeps it. That entries of equal due time
stand in the order of their slots is the model's choice of one form, assumption 16: the rule lets them stand in either order. -/
def Obligations.KeysAndExpiriesFollowTheTable : Prop :=
  ∀ s t : State, s.eleventhLaw → step s = .next t → t.eleventhLaw

/-- The seventh law (R149): no reply the part holds gives out a T_end or a draw value of a call whose end has not been taken, and no
notice in a transmit queue does: a CLOSE_NOTICE there is of a call that has closed, with its close grade. Of a CANCELLED call neither the
record nor a snapshot has a T_end or a draw value without a close grade, so none that was cancelled before its end was taken has them
(R125). Every step keeps it, from records that keep the tenth law. And a CLOSE_NOTICE joins a transmit queue only at the settle expiry of a call in SETTLING (R146). -/
def Obligations.NoReplyTellsAnEndNotTaken : Prop :=
  (∀ s t : State, s.seventhLaw → s.everyCall Call.tenthLaw → step s = .next t → t.seventhLaw) ∧
  ∀ (c : Instr) (s t : State) (l : Fin 16) (n : CloseNotice), exec c s = .next t →
    TxFrame.closeNotice n ∈ t.lanes[l].tx → TxFrame.closeNotice n ∉ s.lanes[l].tx →
    ∃ dt i x, c = .settleExpiry dt i ∧ s.slots[i] = some x ∧ x.phase = .settling

/-! ### The operations port (chapter 9) -/

/-- Transactions at the port (R151, R152, R154, R159, 11.7): the first byte of a transaction shifts out the status byte as it then stands
and changes nothing else, whatever it is. At its release a WRITE that is no whole frame is discarded, and one that finds a reply held is
BUSY with no other effect. The release of a READ has shifted out what was clocked of the held reply, and empties the buffer after its
last byte alone; in EMPTY it has shifted out bytes of 0. No other transaction has an effect at its release. SET_DEVICE_LIMITS (R156): the
limits are written whole, and Cmax and the settle guard not while a call is live. The model's choices: the bytes past a reply's last are
free values and the view of the pin is kept from one transaction to the next (assumption 20), the first byte of a transaction is the
table's OPS_READ (assumption 24), and a release of what is not in progress has no effect (assumption 2). -/
def Obligations.TransactionsAndDeviceLimits : Prop :=
  (∀ (dt : Nat) (s : State), s.power = .running →
    let u := s.elapse dt
    let o := s.ops
    (∀ first, exec (.opsRead dt (.begins first)) s =
      .next { u with ops := { o with spi := some first, shiftOut := [u.statusByte] } }) ∧
    (let judged := fun w : WriteResult => { u with ops := { o with lastWrite := w, spi := none } }
     o.spi = some 165 →
      (∀ bytes, parseFrame bytes = none → exec (.opsWriteDiscarded dt bytes) s = .next (judged .discarded)) ∧
      ∀ held, o.reply = some held →
        (∀ bytes f, parseFrame bytes = some f → exec (.opsWriteBusy dt bytes) s = .next (judged .busy)) ∧
        ∀ c k tag payload, c.request = some (.ops tag payload, k) → c.dt = dt → payload.length ≤ 248 →
          exec c s = .next (judged .busy)) ∧
    (o.spi ≠ some 165 → ∀ bytes, exec (.opsWriteDiscarded dt bytes) s = .next u ∧ exec (.opsWriteBusy dt bytes) s = .next u ∧
      ∀ c k tag payload, c.request = some (.ops tag payload, k) → c.dt = dt → exec c s = .next u) ∧
    (let released := fun (bytes : List Byte) (reply : Option Reply) =>
      { u with ops := { o with spi := none, shiftOut := o.shiftOut ++ bytes, reply := reply } }
     o.spi = some 90 →
      (∀ held, o.reply = some held →
        exec (.opsRead dt .complete) s = .next (released held.bytes none) ∧
        ∀ n, (n < held.bytes.length → exec (.opsRead dt (.released n)) s = .next (released (held.bytes.take n) (some held))) ∧
          (held.bytes.length ≤ n → ∃ more : List Byte, more.length = n - held.bytes.length ∧
            exec (.opsRead dt (.released n)) s = .next (released (held.bytes ++ more) none))) ∧
      (o.reply = none → ∀ n, exec (.opsRead dt (.released n)) s = .next (released (List.replicate n 0) none))) ∧
    (o.spi ≠ some 90 →
      exec (.opsRead dt .complete) s = .next u ∧ ∀ n, exec (.opsRead dt (.released n)) s = .next u) ∧
    u.statusByte.toNat = (if o.reply = none then 0 else 1)
      + 2 * (match o.lastWrite with | .none => 0 | .taken => 1 | .busy => 2 | .discarded => 3)
      + 8 * (if o.alerts &&& o.mask = 0 then 0 else 1)) ∧
  (∀ (dt : Nat) (src : Source) (s : State) (r : Taken), s.power = .running →
    (s.elapse dt).taken .setDeviceLimits src = some r →
    (decodeLimits r.payload = none →
      exec (.setDeviceLimits dt src) s = .next (r.reply .setDeviceLimits (.plain .range) r.state)) ∧
    ∀ d, decodeLimits r.payload = some d →
      let moves := d.cmax ≠ s.ops.limits.cmax ∨ d.settleGuard ≠ s.ops.limits.settleGuard
      (moves → s.anyLive = true →
        exec (.setDeviceLimits dt src) s = .next (r.reply .setDeviceLimits (.plain .wrongPhase) r.state)) ∧
      (¬ moves ∨ s.anyLive = false →
        exec (.setDeviceLimits dt src) s = .next (r.reply .setDeviceLimits (.done (.limits d))
          { r.state with ops := { r.state.ops with limits := d } })))

/-- READ_ALERTS and SET_ALERT_MASK, whole (R160, R161): the set is returned and emptied at one event and the line released; a raise
before it is returned and one after it stays; its reply stays until it is read, and every write is refused BUSY until then. The mask is
replaced by the one carried, or refused RANGE; it asserts the line for a flag already in the set; a run begins with it empty. -/
def Obligations.AlertsAreReadOnceAndMasked : Prop :=
  (∀ (dt : Nat) (tag : Tag) (s : State), s.power = .running → s.ops.spi = some 165 → s.ops.reply = none →
    let u := s.elapse dt
    let t := { u with ops := { s.ops with
      alerts := 0, lastWrite := .taken, spi := none
      reply := some { kind := Kind.readAlerts.byte, tag, code := .done, ind := .clear, body := .alerts s.ops.alerts } } }
    exec (.readAlerts dt (.ops tag [])) s = .next t ∧ t.alertLine = false ∧
    (∀ a : Alert, hasAlert a (s.raise a).ops.alerts = true ∧ (t.raise a).ops.reply = t.ops.reply ∧
      hasAlert a (t.raise a).ops.alerts = true ∧ (hasAlert a t.ops.mask = true → (t.raise a).alertLine = true)) ∧
    ∀ (dt₁ dt₂ : Nat) (w : State), exec (.opsRead dt₁ (.begins 165)) t = .next w →
      let refused := { w.elapse dt₂ with ops := { w.ops with lastWrite := .busy, spi := none } }
      w.ops.reply = t.ops.reply ∧
      (∀ bytes f, parseFrame bytes = some f → exec (.opsWriteBusy dt₂ bytes) w = .next refused) ∧
      (∀ c k tag' payload, c.request = some (.ops tag' payload, k) → c.dt = dt₂ → payload.length ≤ 248 →
        exec c w = .next refused) ∧
      (∀ kind tag' payload, formOk .ops kind payload.length = false → payload.length ≤ 248 →
        exec (.unknownKind dt₂ (.ops tag' payload) kind) w = .next refused)) ∧
  (∀ (c : Instr) (s t : State) (r : Reply), c.restarts = false → s.ops.reply = some r → exec c s = .next t →
    t.ops.reply = some r ∨
      t.ops.reply = none ∧ ∃ dt, c = .opsRead dt .complete ∨ ∃ n, c = .opsRead dt (.released n) ∧ r.bytes.length ≤ n) ∧
  (∀ (dt : Nat) (tag : Tag) (payload : List Byte) (s : State), s.power = .running → s.ops.spi = some 165 →
    s.ops.reply = none → payload.length = 2 →
    let u := s.elapse dt
    let v := field 0 2 payload
    let answered := fun (code : Code) (body : Body) (mask : AlertSet) => { u with ops := { s.ops with
      mask, lastWrite := .taken, spi := none
      reply := some { kind := Kind.setAlertMask.byte, tag, code, ind := .clear, body } } }
    (8192 ≤ v → exec (.setAlertMask dt (.ops tag payload)) s = .next (answered .range .empty s.ops.mask)) ∧
    (v < 8192 → ∃ mask : AlertSet, (∀ a : Alert, hasAlert a mask = v.testBit a.index) ∧
      exec (.setAlertMask dt (.ops tag payload)) s = .next (answered .done (.mask mask) mask) ∧
      ∀ a : Alert, hasAlert a s.ops.alerts = true → hasAlert a mask = true →
        (answered .done (.mask mask) mask).alertLine = true)) ∧
  (∀ (cause : ResetCause) (s t : State), s.power = .held cause → exec .runStart s = .next t → t.ops.mask = 0) ∧
  (∀ (dt : Nat) (tag : Tag) (s t : State), s.power = .running → s.ops.spi = some 165 → s.ops.reply = none →
    exec (.systemReset dt (.ops tag [])) s = .next t → t.ops.mask = 0)


/-! ### Power, reset and the retained domain (chapter 10) -/

/-- RETAINED_ENABLE, RETAINED_READ and RETAINED_WRITE (R164, R165): the write is made whole, only while write-enable is set and only in
range; the running rate is not moved. That the clear choice is DONE whatever the four rate bytes hold, a rate out of range among it, is
the model's choice: assumption 31. -/
def Obligations.RetainedDomainIsReadAndWritten : Prop :=
  ∀ (dt : Nat) (src : Source) (s : State) (r : Taken), s.power = .running →
    let choice := field 0 1 r.payload
    let rate := signed 4 (field 1 4 r.payload)
    ((s.elapse dt).taken .retainedEnable src = some r →
      (∀ on : Bool, choice = on.toNat → exec (.retainedEnable dt src) s =
        .next (r.reply .retainedEnable (.done (.writeEnable on))
          { r.state with retained := { s.retained with writeEnable := on } })) ∧
      (2 ≤ choice → exec (.retainedEnable dt src) s = .next (r.reply .retainedEnable (.plain .range) r.state))) ∧
    ((s.elapse dt).taken .retainedRead src = some r →
      exec (.retainedRead dt src) s = .next (r.reply .retainedRead (.done (.retained s.retained)) r.state)) ∧
    ((s.elapse dt).taken .retainedWrite src = some r →
      (2 ≤ choice → exec (.retainedWrite dt src) s = .next (r.reply .retainedWrite (.plain .range) r.state)) ∧
      (choice < 2 → s.retained.writeEnable = false →
        exec (.retainedWrite dt src) s = .next (r.reply .retainedWrite (.plain .wrongState) r.state)) ∧
      (choice = 0 → s.retained.writeEnable = true → 500000000 < rate.natAbs →
        exec (.retainedWrite dt src) s = .next (r.reply .retainedWrite (.plain .range) r.state)) ∧
      (choice = 0 → s.retained.writeEnable = true → rate.natAbs ≤ 500000000 →
        exec (.retainedWrite dt src) s = .next (r.reply .retainedWrite (.done (.savedRate true rate))
          { r.state with retained := { s.retained with valid := true, savedRate := rate } })) ∧
      (choice = 1 → s.retained.writeEnable = true →
        exec (.retainedWrite dt src) s = .next (r.reply .retainedWrite (.done (.savedRate false 0))
          { r.state with retained := { s.retained with valid := false, savedRate := 0 } })))

/-- Power and reset (R6, R162, R163, R166, R167): the run begins at the release, or at the taking of SYSTEM_RESET, with every block at
its reset value, the cause and the count recorded and the rate of the warm start; the retained domain outlives everything but the loss
of both supplies, in either order. The model's choices: POWER_ON and RUN_START have no effect on a part that runs (assumptions 2 and 29),
the pin is followed without power (assumption 29), the contents are kept for as long as main power stands and the cause is absent once
both supplies were lost (assumption 18), and the backup supply holds again from POWER_ON (assumption 30). -/
def Obligations.RunsBeginAtResetValues : Prop :=
  let lost : Retained := { valid := false, savedRate := 0, cause := none, count := 0, writeEnable := false }
  (∀ (s : State) (cause : ResetCause), s.power = .held cause →
    exec .runStart s = .next { s.inRun cause with resetPin := false } ∧ exec .powerOn s = .next s ∧
    exec .resetPinAsserted s = .next { s with resetPin := true } ∧
    exec .backupSupplyLoss s = .next { s with backup := false }) ∧
  (∀ s : State, s.power = .running →
    (∀ dt tag, s.ops.spi = some 165 → s.ops.reply = none →
      exec (.systemReset dt (.ops tag [])) s = .next (s.inRun .resetRequest)) ∧
    exec .runStart s = .next s ∧ exec .powerOn s = .next s ∧ exec .backupSupplyLoss s = .next { s with backup := false } ∧
    ∃ t, exec .resetPinAsserted s = .next t ∧ t.power = .held .resetPin ∧ t.resetPin = true ∧ t.retained = s.retained ∧
      t.backup = s.backup) ∧
  (∀ s : State, s.power = .off →
    exec .runStart s = .next s ∧ exec .powerLoss s = .next s ∧ exec .resetPinAsserted s = .next { s with resetPin := true } ∧
    exec .backupSupplyLoss s = .next { s with retained := lost, backup := false } ∧
    ∃ t, exec .powerOn s = .next t ∧ t.power = .held .powerOn ∧ t.resetPin = s.resetPin ∧ t.retained = s.retained ∧
      t.backup = true) ∧
  (∀ s : State, s.power ≠ .off → ∃ t, exec .powerLoss s = .next t ∧ t.power = .off ∧ t.backup = s.backup ∧
    t.retained = if s.backup then s.retained else lost) ∧
  (∀ (s : State) (cause : ResetCause),
    let r := (s.inRun cause).ts
    (s.retained.valid = true → r.rate = max (-100000000) (min 100000000 s.retained.savedRate) ∧
      r.rateHeld = decide (r.rate ≠ s.retained.savedRate)) ∧
    (s.retained.valid = false → r.rate = 0 ∧ r.rateHeld = false))


/-- What reset leaves (10.1): the table's values that the part's first commands meet, and every law that the steps keep. That this is a
power-on with the retained domain found cleared is the model's choice: assumption 9. -/
def Obligations.ResetMeetsEveryLaw : Prop :=
  let s := State.reset
  s.ts.inRange ∧ s.thirdLaw ∧ s.fourthLaw ∧ s.gradeLaw ∧ s.lanesWf ∧
  (s.everyCall fun c => c.endPresent ∧ c.eighthLaw ∧ c.ninthLaw ∧ c.tenthLaw) ∧ s.eleventhLaw ∧ s.seventhLaw ∧
  s.ts.state = .unset ∧ s.ts.ns = 0 ∧ s.ts.raw = 0 ∧ s.ts.rate = 0 ∧ s.ts.slew = 0 ∧ s.trace.nextSample = 1000000000 ∧
  s.retained.cause = some .powerOn ∧ s.retained.count = 1 ∧ s.ops.cursor = 63 ∧ s.ops.reply = none ∧
  (∀ p : Fin 4, s.refs[p].state = .disabled) ∧ (∀ i : Fin 64, s.slots[i] = none) ∧
  (∀ l : Fin 16, s.lanes[l].up = false ∧ s.lanes[l].cursor = 63 ∧ s.lanes[l].lastStamp = none ∧
    s.lanes[l].derived.c = 0 ∧ s.lanes[l].derived.u = 20000) ∧
  ∀ a : Alert, hasAlert a s.ops.alerts = decide (a = .resetDone)

/-- Two rules of the whole machine: an alert leaves the set only by a READ_ALERTS at the port or where the run ends or begins (R158), and
the saved rate and its valid flag change only at a pulse edge or an announcement whose mark leaves the timescale LOCKED, with its r, by a
RETAINED_WRITE at the port, or by the loss of the second of the two supplies (R18, R163, R165). -/
def Obligations.AlertsAndSavedRateChangeOnlyByTheirRules : Prop :=
  (∀ (c : Instr) (s t : State) (a : Alert), exec c s = .next t → hasAlert a s.ops.alerts = true →
    hasAlert a t.ops.alerts = false → c.restarts = true ∨ ∃ dt tag payload, c = .readAlerts dt (.ops tag payload)) ∧
  (∀ (c : Instr) (s t : State), exec c s = .next t →
    t.retained.savedRate ≠ s.retained.savedRate ∨ t.retained.valid ≠ s.retained.valid →
    ((∃ dt p, (∃ edge lines error, c = .pulseEdge dt p edge lines error) ∨ ∃ chars framing, c = .announcement dt p chars framing) ∧
      t.ts.state = .locked ∧ t.retained.savedRate = t.ts.rate ∧ t.retained.valid = true) ∨
    (∃ dt tag payload, c = .retainedWrite dt (.ops tag payload)) ∨ c = .backupSupplyLoss ∧ s.power = .off ∨
    c = .powerLoss ∧ s.power ≠ .off ∧ s.backup = false)

/-! ### Frames (chapter 11) -/

/-- A frame that is sent is read back whole (11.2), a time in its nine bytes is read back, absent or not (11.1), and a change of any one
byte under the frame check changes the check (R169). -/
def Obligations.FramesAndTimesReadBack : Prop :=
  (∀ (kind : Byte) (tag : Tag) (payload : List Byte), payload.length ≤ 248 →
    parseFrame (frameBytes kind tag payload) = some { kind, tag, payload }) ∧
  (∀ (pre post : List Byte) (t : Option Nat), (∀ x, t = some x → x ≤ maxNs) →
    decodeTime pre.length (pre ++ timeBytes t ++ post) = some t) ∧
  (∀ (bs : List Byte) (i : Nat) (b : Byte) (h : i < bs.length), b ≠ bs[i] → frameCheck (bs.set i b) ≠ frameCheck bs)
end

