-- ==== Sys2Proof/Laws/State.lean ====
section
/-! SUPPORT. What each named update of the state leaves as it was, one lemma per field per update, and what it writes; so that no
later proof unfolds a record update. -/

namespace Sys2Proof.Machine

variable (s : State)

/-! ### State.elapse -/

@[simp] theorem State.elapse_refs (dt : Nat) : (s.elapse dt).refs = s.refs := rfl
@[simp] theorem State.elapse_trace (dt : Nat) : (s.elapse dt).trace = s.trace := rfl
@[simp] theorem State.elapse_lanes (dt : Nat) : (s.elapse dt).lanes = s.lanes := rfl
@[simp] theorem State.elapse_slots (dt : Nat) : (s.elapse dt).slots = s.slots := rfl
@[simp] theorem State.elapse_groupMap (dt : Nat) : (s.elapse dt).groupMap = s.groupMap := rfl
@[simp] theorem State.elapse_expiry (dt : Nat) : (s.elapse dt).expiry = s.expiry := rfl
@[simp] theorem State.elapse_drawCount (dt : Nat) : (s.elapse dt).drawCount = s.drawCount := rfl
@[simp] theorem State.elapse_ops (dt : Nat) : (s.elapse dt).ops = s.ops := rfl
@[simp] theorem State.elapse_retained (dt : Nat) : (s.elapse dt).retained = s.retained := rfl
@[simp] theorem State.elapse_power (dt : Nat) : (s.elapse dt).power = s.power := rfl
@[simp] theorem State.elapse_resetPin (dt : Nat) : (s.elapse dt).resetPin = s.resetPin := rfl
@[simp] theorem State.elapse_pending (dt : Nat) : (s.elapse dt).pending = s.pending := rfl
@[simp] theorem State.elapse_backup (dt : Nat) : (s.elapse dt).backup = s.backup := rfl

/-! ### State.raise -/

@[simp] theorem State.raise_ts (a : Alert) : (s.raise a).ts = s.ts := rfl
@[simp] theorem State.raise_refs (a : Alert) : (s.raise a).refs = s.refs := rfl
@[simp] theorem State.raise_trace (a : Alert) : (s.raise a).trace = s.trace := rfl
@[simp] theorem State.raise_lanes (a : Alert) : (s.raise a).lanes = s.lanes := rfl
@[simp] theorem State.raise_slots (a : Alert) : (s.raise a).slots = s.slots := rfl
@[simp] theorem State.raise_groupMap (a : Alert) : (s.raise a).groupMap = s.groupMap := rfl
@[simp] theorem State.raise_expiry (a : Alert) : (s.raise a).expiry = s.expiry := rfl
@[simp] theorem State.raise_drawCount (a : Alert) : (s.raise a).drawCount = s.drawCount := rfl
@[simp] theorem State.raise_retained (a : Alert) : (s.raise a).retained = s.retained := rfl
@[simp] theorem State.raise_power (a : Alert) : (s.raise a).power = s.power := rfl
@[simp] theorem State.raise_resetPin (a : Alert) : (s.raise a).resetPin = s.resetPin := rfl
@[simp] theorem State.raise_pending (a : Alert) : (s.raise a).pending = s.pending := rfl
@[simp] theorem State.raise_backup (a : Alert) : (s.raise a).backup = s.backup := rfl

/-! ### State.onLane -/

@[simp] theorem State.onLane_ts (l : Fin 16) (f : Lane → Lane) : (s.onLane l f).ts = s.ts := rfl
@[simp] theorem State.onLane_refs (l : Fin 16) (f : Lane → Lane) : (s.onLane l f).refs = s.refs := rfl
@[simp] theorem State.onLane_trace (l : Fin 16) (f : Lane → Lane) : (s.onLane l f).trace = s.trace := rfl
@[simp] theorem State.onLane_slots (l : Fin 16) (f : Lane → Lane) : (s.onLane l f).slots = s.slots := rfl
@[simp] theorem State.onLane_groupMap (l : Fin 16) (f : Lane → Lane) : (s.onLane l f).groupMap = s.groupMap := rfl
@[simp] theorem State.onLane_expiry (l : Fin 16) (f : Lane → Lane) : (s.onLane l f).expiry = s.expiry := rfl
@[simp] theorem State.onLane_drawCount (l : Fin 16) (f : Lane → Lane) : (s.onLane l f).drawCount = s.drawCount := rfl
@[simp] theorem State.onLane_ops (l : Fin 16) (f : Lane → Lane) : (s.onLane l f).ops = s.ops := rfl
@[simp] theorem State.onLane_retained (l : Fin 16) (f : Lane → Lane) : (s.onLane l f).retained = s.retained := rfl
@[simp] theorem State.onLane_power (l : Fin 16) (f : Lane → Lane) : (s.onLane l f).power = s.power := rfl
@[simp] theorem State.onLane_resetPin (l : Fin 16) (f : Lane → Lane) : (s.onLane l f).resetPin = s.resetPin := rfl
@[simp] theorem State.onLane_pending (l : Fin 16) (f : Lane → Lane) : (s.onLane l f).pending = s.pending := rfl
@[simp] theorem State.onLane_backup (l : Fin 16) (f : Lane → Lane) : (s.onLane l f).backup = s.backup := rfl

/-! ### State.onLanes -/

@[simp] theorem State.onLanes_ts (f : Lane → Lane) : (s.onLanes f).ts = s.ts := rfl
@[simp] theorem State.onLanes_refs (f : Lane → Lane) : (s.onLanes f).refs = s.refs := rfl
@[simp] theorem State.onLanes_trace (f : Lane → Lane) : (s.onLanes f).trace = s.trace := rfl
@[simp] theorem State.onLanes_slots (f : Lane → Lane) : (s.onLanes f).slots = s.slots := rfl
@[simp] theorem State.onLanes_groupMap (f : Lane → Lane) : (s.onLanes f).groupMap = s.groupMap := rfl
@[simp] theorem State.onLanes_expiry (f : Lane → Lane) : (s.onLanes f).expiry = s.expiry := rfl
@[simp] theorem State.onLanes_drawCount (f : Lane → Lane) : (s.onLanes f).drawCount = s.drawCount := rfl
@[simp] theorem State.onLanes_ops (f : Lane → Lane) : (s.onLanes f).ops = s.ops := rfl
@[simp] theorem State.onLanes_retained (f : Lane → Lane) : (s.onLanes f).retained = s.retained := rfl
@[simp] theorem State.onLanes_power (f : Lane → Lane) : (s.onLanes f).power = s.power := rfl
@[simp] theorem State.onLanes_resetPin (f : Lane → Lane) : (s.onLanes f).resetPin = s.resetPin := rfl
@[simp] theorem State.onLanes_pending (f : Lane → Lane) : (s.onLanes f).pending = s.pending := rfl
@[simp] theorem State.onLanes_backup (f : Lane → Lane) : (s.onLanes f).backup = s.backup := rfl

/-! ### State.handNotice -/

@[simp] theorem State.handNotice_ts (set : LaneSet) (f : TxFrame) : (s.handNotice set f).ts = s.ts := rfl
@[simp] theorem State.handNotice_refs (set : LaneSet) (f : TxFrame) : (s.handNotice set f).refs = s.refs := rfl
@[simp] theorem State.handNotice_trace (set : LaneSet) (f : TxFrame) : (s.handNotice set f).trace = s.trace := rfl
@[simp] theorem State.handNotice_slots (set : LaneSet) (f : TxFrame) : (s.handNotice set f).slots = s.slots := rfl
@[simp] theorem State.handNotice_groupMap (set : LaneSet) (f : TxFrame) : (s.handNotice set f).groupMap = s.groupMap := rfl
@[simp] theorem State.handNotice_expiry (set : LaneSet) (f : TxFrame) : (s.handNotice set f).expiry = s.expiry := rfl
@[simp] theorem State.handNotice_drawCount (set : LaneSet) (f : TxFrame) : (s.handNotice set f).drawCount = s.drawCount := rfl
@[simp] theorem State.handNotice_ops (set : LaneSet) (f : TxFrame) : (s.handNotice set f).ops = s.ops := rfl
@[simp] theorem State.handNotice_retained (set : LaneSet) (f : TxFrame) : (s.handNotice set f).retained = s.retained := rfl
@[simp] theorem State.handNotice_power (set : LaneSet) (f : TxFrame) : (s.handNotice set f).power = s.power := rfl
@[simp] theorem State.handNotice_resetPin (set : LaneSet) (f : TxFrame) : (s.handNotice set f).resetPin = s.resetPin := rfl
@[simp] theorem State.handNotice_pending (set : LaneSet) (f : TxFrame) : (s.handNotice set f).pending = s.pending := rfl
@[simp] theorem State.handNotice_backup (set : LaneSet) (f : TxFrame) : (s.handNotice set f).backup = s.backup := rfl

/-! ### State.onRef -/

@[simp] theorem State.onRef_ts (p : Fin 4) (f : RefRecord → RefRecord) : (s.onRef p f).ts = s.ts := rfl
@[simp] theorem State.onRef_trace (p : Fin 4) (f : RefRecord → RefRecord) : (s.onRef p f).trace = s.trace := rfl
@[simp] theorem State.onRef_lanes (p : Fin 4) (f : RefRecord → RefRecord) : (s.onRef p f).lanes = s.lanes := rfl
@[simp] theorem State.onRef_slots (p : Fin 4) (f : RefRecord → RefRecord) : (s.onRef p f).slots = s.slots := rfl
@[simp] theorem State.onRef_groupMap (p : Fin 4) (f : RefRecord → RefRecord) : (s.onRef p f).groupMap = s.groupMap := rfl
@[simp] theorem State.onRef_expiry (p : Fin 4) (f : RefRecord → RefRecord) : (s.onRef p f).expiry = s.expiry := rfl
@[simp] theorem State.onRef_drawCount (p : Fin 4) (f : RefRecord → RefRecord) : (s.onRef p f).drawCount = s.drawCount := rfl
@[simp] theorem State.onRef_ops (p : Fin 4) (f : RefRecord → RefRecord) : (s.onRef p f).ops = s.ops := rfl
@[simp] theorem State.onRef_retained (p : Fin 4) (f : RefRecord → RefRecord) : (s.onRef p f).retained = s.retained := rfl
@[simp] theorem State.onRef_power (p : Fin 4) (f : RefRecord → RefRecord) : (s.onRef p f).power = s.power := rfl
@[simp] theorem State.onRef_resetPin (p : Fin 4) (f : RefRecord → RefRecord) : (s.onRef p f).resetPin = s.resetPin := rfl
@[simp] theorem State.onRef_pending (p : Fin 4) (f : RefRecord → RefRecord) : (s.onRef p f).pending = s.pending := rfl
@[simp] theorem State.onRef_backup (p : Fin 4) (f : RefRecord → RefRecord) : (s.onRef p f).backup = s.backup := rfl

/-! ### State.clearDisputes -/

@[simp] theorem State.clearDisputes_ts : (s.clearDisputes).ts = s.ts := rfl
@[simp] theorem State.clearDisputes_trace : (s.clearDisputes).trace = s.trace := rfl
@[simp] theorem State.clearDisputes_lanes : (s.clearDisputes).lanes = s.lanes := rfl
@[simp] theorem State.clearDisputes_slots : (s.clearDisputes).slots = s.slots := rfl
@[simp] theorem State.clearDisputes_groupMap : (s.clearDisputes).groupMap = s.groupMap := rfl
@[simp] theorem State.clearDisputes_expiry : (s.clearDisputes).expiry = s.expiry := rfl
@[simp] theorem State.clearDisputes_drawCount : (s.clearDisputes).drawCount = s.drawCount := rfl
@[simp] theorem State.clearDisputes_ops : (s.clearDisputes).ops = s.ops := rfl
@[simp] theorem State.clearDisputes_retained : (s.clearDisputes).retained = s.retained := rfl
@[simp] theorem State.clearDisputes_power : (s.clearDisputes).power = s.power := rfl
@[simp] theorem State.clearDisputes_resetPin : (s.clearDisputes).resetPin = s.resetPin := rfl
@[simp] theorem State.clearDisputes_pending : (s.clearDisputes).pending = s.pending := rfl
@[simp] theorem State.clearDisputes_backup : (s.clearDisputes).backup = s.backup := rfl

/-! ### State.countSwitch -/

@[simp] theorem State.countSwitch_ts : (s.countSwitch).ts = s.ts := rfl
@[simp] theorem State.countSwitch_refs : (s.countSwitch).refs = s.refs := rfl
@[simp] theorem State.countSwitch_lanes : (s.countSwitch).lanes = s.lanes := rfl
@[simp] theorem State.countSwitch_slots : (s.countSwitch).slots = s.slots := rfl
@[simp] theorem State.countSwitch_groupMap : (s.countSwitch).groupMap = s.groupMap := rfl
@[simp] theorem State.countSwitch_expiry : (s.countSwitch).expiry = s.expiry := rfl
@[simp] theorem State.countSwitch_drawCount : (s.countSwitch).drawCount = s.drawCount := rfl
@[simp] theorem State.countSwitch_ops : (s.countSwitch).ops = s.ops := rfl
@[simp] theorem State.countSwitch_retained : (s.countSwitch).retained = s.retained := rfl
@[simp] theorem State.countSwitch_power : (s.countSwitch).power = s.power := rfl
@[simp] theorem State.countSwitch_resetPin : (s.countSwitch).resetPin = s.resetPin := rfl
@[simp] theorem State.countSwitch_pending : (s.countSwitch).pending = s.pending := rfl
@[simp] theorem State.countSwitch_backup : (s.countSwitch).backup = s.backup := rfl

/-! ### State.countHoldover -/

@[simp] theorem State.countHoldover_ts : (s.countHoldover).ts = s.ts := rfl
@[simp] theorem State.countHoldover_refs : (s.countHoldover).refs = s.refs := rfl
@[simp] theorem State.countHoldover_lanes : (s.countHoldover).lanes = s.lanes := rfl
@[simp] theorem State.countHoldover_slots : (s.countHoldover).slots = s.slots := rfl
@[simp] theorem State.countHoldover_groupMap : (s.countHoldover).groupMap = s.groupMap := rfl
@[simp] theorem State.countHoldover_expiry : (s.countHoldover).expiry = s.expiry := rfl
@[simp] theorem State.countHoldover_drawCount : (s.countHoldover).drawCount = s.drawCount := rfl
@[simp] theorem State.countHoldover_ops : (s.countHoldover).ops = s.ops := rfl
@[simp] theorem State.countHoldover_retained : (s.countHoldover).retained = s.retained := rfl
@[simp] theorem State.countHoldover_power : (s.countHoldover).power = s.power := rfl
@[simp] theorem State.countHoldover_resetPin : (s.countHoldover).resetPin = s.resetPin := rfl
@[simp] theorem State.countHoldover_pending : (s.countHoldover).pending = s.pending := rfl
@[simp] theorem State.countHoldover_backup : (s.countHoldover).backup = s.backup := rfl

/-! ### State.countStamp -/

@[simp] theorem State.countStamp_ts (g : Grade) : (s.countStamp g).ts = s.ts := rfl
@[simp] theorem State.countStamp_refs (g : Grade) : (s.countStamp g).refs = s.refs := rfl
@[simp] theorem State.countStamp_lanes (g : Grade) : (s.countStamp g).lanes = s.lanes := rfl
@[simp] theorem State.countStamp_slots (g : Grade) : (s.countStamp g).slots = s.slots := rfl
@[simp] theorem State.countStamp_groupMap (g : Grade) : (s.countStamp g).groupMap = s.groupMap := rfl
@[simp] theorem State.countStamp_expiry (g : Grade) : (s.countStamp g).expiry = s.expiry := rfl
@[simp] theorem State.countStamp_drawCount (g : Grade) : (s.countStamp g).drawCount = s.drawCount := rfl
@[simp] theorem State.countStamp_ops (g : Grade) : (s.countStamp g).ops = s.ops := rfl
@[simp] theorem State.countStamp_retained (g : Grade) : (s.countStamp g).retained = s.retained := rfl
@[simp] theorem State.countStamp_power (g : Grade) : (s.countStamp g).power = s.power := rfl
@[simp] theorem State.countStamp_resetPin (g : Grade) : (s.countStamp g).resetPin = s.resetPin := rfl
@[simp] theorem State.countStamp_pending (g : Grade) : (s.countStamp g).pending = s.pending := rfl
@[simp] theorem State.countStamp_backup (g : Grade) : (s.countStamp g).backup = s.backup := rfl

/-! ### State.saveRate -/

@[simp] theorem State.saveRate_ts : (s.saveRate).ts = s.ts := rfl
@[simp] theorem State.saveRate_refs : (s.saveRate).refs = s.refs := rfl
@[simp] theorem State.saveRate_trace : (s.saveRate).trace = s.trace := rfl
@[simp] theorem State.saveRate_lanes : (s.saveRate).lanes = s.lanes := rfl
@[simp] theorem State.saveRate_slots : (s.saveRate).slots = s.slots := rfl
@[simp] theorem State.saveRate_groupMap : (s.saveRate).groupMap = s.groupMap := rfl
@[simp] theorem State.saveRate_expiry : (s.saveRate).expiry = s.expiry := rfl
@[simp] theorem State.saveRate_drawCount : (s.saveRate).drawCount = s.drawCount := rfl
@[simp] theorem State.saveRate_ops : (s.saveRate).ops = s.ops := rfl
@[simp] theorem State.saveRate_power : (s.saveRate).power = s.power := rfl
@[simp] theorem State.saveRate_resetPin : (s.saveRate).resetPin = s.resetPin := rfl
@[simp] theorem State.saveRate_pending : (s.saveRate).pending = s.pending := rfl
@[simp] theorem State.saveRate_backup : (s.saveRate).backup = s.backup := rfl

/-! ### State.putCall -/

@[simp] theorem State.putCall_ts (i : Fin 64) (c : Call) : (s.putCall i c).ts = s.ts := rfl
@[simp] theorem State.putCall_refs (i : Fin 64) (c : Call) : (s.putCall i c).refs = s.refs := rfl
@[simp] theorem State.putCall_trace (i : Fin 64) (c : Call) : (s.putCall i c).trace = s.trace := rfl
@[simp] theorem State.putCall_lanes (i : Fin 64) (c : Call) : (s.putCall i c).lanes = s.lanes := rfl
@[simp] theorem State.putCall_groupMap (i : Fin 64) (c : Call) : (s.putCall i c).groupMap = s.groupMap := rfl
@[simp] theorem State.putCall_expiry (i : Fin 64) (c : Call) : (s.putCall i c).expiry = s.expiry := rfl
@[simp] theorem State.putCall_drawCount (i : Fin 64) (c : Call) : (s.putCall i c).drawCount = s.drawCount := rfl
@[simp] theorem State.putCall_ops (i : Fin 64) (c : Call) : (s.putCall i c).ops = s.ops := rfl
@[simp] theorem State.putCall_retained (i : Fin 64) (c : Call) : (s.putCall i c).retained = s.retained := rfl
@[simp] theorem State.putCall_power (i : Fin 64) (c : Call) : (s.putCall i c).power = s.power := rfl
@[simp] theorem State.putCall_resetPin (i : Fin 64) (c : Call) : (s.putCall i c).resetPin = s.resetPin := rfl
@[simp] theorem State.putCall_pending (i : Fin 64) (c : Call) : (s.putCall i c).pending = s.pending := rfl
@[simp] theorem State.putCall_backup (i : Fin 64) (c : Call) : (s.putCall i c).backup = s.backup := rfl

/-! ### State.commit -/

@[simp] theorem State.commit_ts (i : Fin 64) (c : Call) : (s.commit i c).ts = s.ts := rfl
@[simp] theorem State.commit_refs (i : Fin 64) (c : Call) : (s.commit i c).refs = s.refs := rfl
@[simp] theorem State.commit_trace (i : Fin 64) (c : Call) : (s.commit i c).trace = s.trace := rfl
@[simp] theorem State.commit_groupMap (i : Fin 64) (c : Call) : (s.commit i c).groupMap = s.groupMap := rfl
@[simp] theorem State.commit_drawCount (i : Fin 64) (c : Call) : (s.commit i c).drawCount = s.drawCount := rfl
@[simp] theorem State.commit_ops (i : Fin 64) (c : Call) : (s.commit i c).ops = s.ops := rfl
@[simp] theorem State.commit_retained (i : Fin 64) (c : Call) : (s.commit i c).retained = s.retained := rfl
@[simp] theorem State.commit_power (i : Fin 64) (c : Call) : (s.commit i c).power = s.power := rfl
@[simp] theorem State.commit_resetPin (i : Fin 64) (c : Call) : (s.commit i c).resetPin = s.resetPin := rfl
@[simp] theorem State.commit_pending (i : Fin 64) (c : Call) : (s.commit i c).pending = s.pending := rfl
@[simp] theorem State.commit_backup (i : Fin 64) (c : Call) : (s.commit i c).backup = s.backup := rfl

/-! ### State.mapKeys -/

@[simp] theorem State.mapKeys_ts (keys : List Nat) (i : Fin 64) : (s.mapKeys keys i).ts = s.ts := rfl
@[simp] theorem State.mapKeys_refs (keys : List Nat) (i : Fin 64) : (s.mapKeys keys i).refs = s.refs := rfl
@[simp] theorem State.mapKeys_trace (keys : List Nat) (i : Fin 64) : (s.mapKeys keys i).trace = s.trace := rfl
@[simp] theorem State.mapKeys_lanes (keys : List Nat) (i : Fin 64) : (s.mapKeys keys i).lanes = s.lanes := rfl
@[simp] theorem State.mapKeys_slots (keys : List Nat) (i : Fin 64) : (s.mapKeys keys i).slots = s.slots := rfl
@[simp] theorem State.mapKeys_expiry (keys : List Nat) (i : Fin 64) : (s.mapKeys keys i).expiry = s.expiry := rfl
@[simp] theorem State.mapKeys_drawCount (keys : List Nat) (i : Fin 64) : (s.mapKeys keys i).drawCount = s.drawCount := rfl
@[simp] theorem State.mapKeys_ops (keys : List Nat) (i : Fin 64) : (s.mapKeys keys i).ops = s.ops := rfl
@[simp] theorem State.mapKeys_retained (keys : List Nat) (i : Fin 64) : (s.mapKeys keys i).retained = s.retained := rfl
@[simp] theorem State.mapKeys_power (keys : List Nat) (i : Fin 64) : (s.mapKeys keys i).power = s.power := rfl
@[simp] theorem State.mapKeys_resetPin (keys : List Nat) (i : Fin 64) : (s.mapKeys keys i).resetPin = s.resetPin := rfl
@[simp] theorem State.mapKeys_pending (keys : List Nat) (i : Fin 64) : (s.mapKeys keys i).pending = s.pending := rfl
@[simp] theorem State.mapKeys_backup (keys : List Nat) (i : Fin 64) : (s.mapKeys keys i).backup = s.backup := rfl

/-! ### State.mapKey -/

@[simp] theorem State.mapKey_ts (k : Nat) (i : Fin 64) : (s.mapKey k i).ts = s.ts := rfl
@[simp] theorem State.mapKey_refs (k : Nat) (i : Fin 64) : (s.mapKey k i).refs = s.refs := rfl
@[simp] theorem State.mapKey_trace (k : Nat) (i : Fin 64) : (s.mapKey k i).trace = s.trace := rfl
@[simp] theorem State.mapKey_lanes (k : Nat) (i : Fin 64) : (s.mapKey k i).lanes = s.lanes := rfl
@[simp] theorem State.mapKey_slots (k : Nat) (i : Fin 64) : (s.mapKey k i).slots = s.slots := rfl
@[simp] theorem State.mapKey_expiry (k : Nat) (i : Fin 64) : (s.mapKey k i).expiry = s.expiry := rfl
@[simp] theorem State.mapKey_drawCount (k : Nat) (i : Fin 64) : (s.mapKey k i).drawCount = s.drawCount := rfl
@[simp] theorem State.mapKey_ops (k : Nat) (i : Fin 64) : (s.mapKey k i).ops = s.ops := rfl
@[simp] theorem State.mapKey_retained (k : Nat) (i : Fin 64) : (s.mapKey k i).retained = s.retained := rfl
@[simp] theorem State.mapKey_power (k : Nat) (i : Fin 64) : (s.mapKey k i).power = s.power := rfl
@[simp] theorem State.mapKey_resetPin (k : Nat) (i : Fin 64) : (s.mapKey k i).resetPin = s.resetPin := rfl
@[simp] theorem State.mapKey_pending (k : Nat) (i : Fin 64) : (s.mapKey k i).pending = s.pending := rfl
@[simp] theorem State.mapKey_backup (k : Nat) (i : Fin 64) : (s.mapKey k i).backup = s.backup := rfl

/-! ### State.unmapKey -/

@[simp] theorem State.unmapKey_ts (k : Nat) : (s.unmapKey k).ts = s.ts := rfl
@[simp] theorem State.unmapKey_refs (k : Nat) : (s.unmapKey k).refs = s.refs := rfl
@[simp] theorem State.unmapKey_trace (k : Nat) : (s.unmapKey k).trace = s.trace := rfl
@[simp] theorem State.unmapKey_lanes (k : Nat) : (s.unmapKey k).lanes = s.lanes := rfl
@[simp] theorem State.unmapKey_slots (k : Nat) : (s.unmapKey k).slots = s.slots := rfl
@[simp] theorem State.unmapKey_expiry (k : Nat) : (s.unmapKey k).expiry = s.expiry := rfl
@[simp] theorem State.unmapKey_drawCount (k : Nat) : (s.unmapKey k).drawCount = s.drawCount := rfl
@[simp] theorem State.unmapKey_ops (k : Nat) : (s.unmapKey k).ops = s.ops := rfl
@[simp] theorem State.unmapKey_retained (k : Nat) : (s.unmapKey k).retained = s.retained := rfl
@[simp] theorem State.unmapKey_power (k : Nat) : (s.unmapKey k).power = s.power := rfl
@[simp] theorem State.unmapKey_resetPin (k : Nat) : (s.unmapKey k).resetPin = s.resetPin := rfl
@[simp] theorem State.unmapKey_pending (k : Nat) : (s.unmapKey k).pending = s.pending := rfl
@[simp] theorem State.unmapKey_backup (k : Nat) : (s.unmapKey k).backup = s.backup := rfl

/-! ### State.retireSlot -/

@[simp] theorem State.retireSlot_ts (i : Fin 64) : (s.retireSlot i).ts = s.ts := rfl
@[simp] theorem State.retireSlot_refs (i : Fin 64) : (s.retireSlot i).refs = s.refs := rfl
@[simp] theorem State.retireSlot_trace (i : Fin 64) : (s.retireSlot i).trace = s.trace := rfl
@[simp] theorem State.retireSlot_lanes (i : Fin 64) : (s.retireSlot i).lanes = s.lanes := rfl
@[simp] theorem State.retireSlot_expiry (i : Fin 64) : (s.retireSlot i).expiry = s.expiry := rfl
@[simp] theorem State.retireSlot_drawCount (i : Fin 64) : (s.retireSlot i).drawCount = s.drawCount := rfl
@[simp] theorem State.retireSlot_ops (i : Fin 64) : (s.retireSlot i).ops = s.ops := rfl
@[simp] theorem State.retireSlot_retained (i : Fin 64) : (s.retireSlot i).retained = s.retained := rfl
@[simp] theorem State.retireSlot_power (i : Fin 64) : (s.retireSlot i).power = s.power := rfl
@[simp] theorem State.retireSlot_resetPin (i : Fin 64) : (s.retireSlot i).resetPin = s.resetPin := rfl
@[simp] theorem State.retireSlot_pending (i : Fin 64) : (s.retireSlot i).pending = s.pending := rfl
@[simp] theorem State.retireSlot_backup (i : Fin 64) : (s.retireSlot i).backup = s.backup := rfl

/-! ### State.countDraw -/

@[simp] theorem State.countDraw_ts : (s.countDraw).ts = s.ts := rfl
@[simp] theorem State.countDraw_refs : (s.countDraw).refs = s.refs := rfl
@[simp] theorem State.countDraw_trace : (s.countDraw).trace = s.trace := rfl
@[simp] theorem State.countDraw_lanes : (s.countDraw).lanes = s.lanes := rfl
@[simp] theorem State.countDraw_slots : (s.countDraw).slots = s.slots := rfl
@[simp] theorem State.countDraw_groupMap : (s.countDraw).groupMap = s.groupMap := rfl
@[simp] theorem State.countDraw_expiry : (s.countDraw).expiry = s.expiry := rfl
@[simp] theorem State.countDraw_ops : (s.countDraw).ops = s.ops := rfl
@[simp] theorem State.countDraw_retained : (s.countDraw).retained = s.retained := rfl
@[simp] theorem State.countDraw_power : (s.countDraw).power = s.power := rfl
@[simp] theorem State.countDraw_resetPin : (s.countDraw).resetPin = s.resetPin := rfl
@[simp] theorem State.countDraw_pending : (s.countDraw).pending = s.pending := rfl
@[simp] theorem State.countDraw_backup : (s.countDraw).backup = s.backup := rfl

/-! ### State.becomeActive -/

@[simp] theorem State.becomeActive_ts (p : Fin 4) : (s.becomeActive p).ts = s.ts := rfl
@[simp] theorem State.becomeActive_lanes (p : Fin 4) : (s.becomeActive p).lanes = s.lanes := rfl
@[simp] theorem State.becomeActive_slots (p : Fin 4) : (s.becomeActive p).slots = s.slots := rfl
@[simp] theorem State.becomeActive_groupMap (p : Fin 4) : (s.becomeActive p).groupMap = s.groupMap := rfl
@[simp] theorem State.becomeActive_expiry (p : Fin 4) : (s.becomeActive p).expiry = s.expiry := rfl
@[simp] theorem State.becomeActive_drawCount (p : Fin 4) : (s.becomeActive p).drawCount = s.drawCount := rfl
@[simp] theorem State.becomeActive_retained (p : Fin 4) : (s.becomeActive p).retained = s.retained := rfl
@[simp] theorem State.becomeActive_power (p : Fin 4) : (s.becomeActive p).power = s.power := rfl
@[simp] theorem State.becomeActive_resetPin (p : Fin 4) : (s.becomeActive p).resetPin = s.resetPin := rfl
@[simp] theorem State.becomeActive_pending (p : Fin 4) : (s.becomeActive p).pending = s.pending := rfl
@[simp] theorem State.becomeActive_backup (p : Fin 4) : (s.becomeActive p).backup = s.backup := rfl

/-! ### What the updates write -/

@[simp] theorem State.elapse_ts (dt : Nat) : (s.elapse dt).ts = s.ts.elapse dt := rfl
@[simp] theorem State.raise_ops (a : Alert) : (s.raise a).ops = { s.ops with alerts := addAlert a s.ops.alerts } := rfl
@[simp] theorem State.onLane_lanes (l : Fin 16) (f : Lane → Lane) : (s.onLane l f).lanes = s.lanes.set l (f s.lanes[l]) := rfl
@[simp] theorem State.onRef_refs (p : Fin 4) (f : RefRecord → RefRecord) : (s.onRef p f).refs = s.refs.set p (f s.refs[p]) := rfl
@[simp] theorem State.saveRate_retained : s.saveRate.retained = { s.retained with savedRate := s.ts.rate, valid := true } := rfl
@[simp] theorem State.putCall_slots (i : Fin 64) (c : Call) : (s.putCall i c).slots = s.slots.set i (some c) := rfl
@[simp] theorem State.commit_slots (i : Fin 64) (c : Call) : (s.commit i c).slots = s.slots.set i (some c.revised) := rfl
@[simp] theorem State.commit_expiry (i : Fin 64) (c : Call) :
    (s.commit i c).expiry = expiryRefile i (c.revised.dueTime s.ops.limits) s.expiry := rfl
@[simp] theorem State.mapKey_groupMap (k : Nat) (i : Fin 64) : (s.mapKey k i).groupMap = mapInsert k i s.groupMap := rfl
@[simp] theorem State.unmapKey_groupMap (k : Nat) : (s.unmapKey k).groupMap = mapErase k s.groupMap := rfl
@[simp] theorem State.retireSlot_slots (i : Fin 64) : (s.retireSlot i).slots = s.slots.set i none := rfl
@[simp] theorem State.retireSlot_groupMap (i : Fin 64) : (s.retireSlot i).groupMap = mapEraseSlot i s.groupMap := rfl
@[simp] theorem State.countDraw_drawCount : s.countDraw.drawCount = s.drawCount + 1 := rfl

/-! ### The lane written and the lanes beside it -/

@[simp] theorem State.onLane_same (l : Fin 16) (f : Lane → Lane) : (s.onLane l f).lanes[l] = f s.lanes[l] := by simp

/-- Two changes of one lane are one. -/
theorem State.onLane_onLane (l : Fin 16) (f g : Lane → Lane) : (s.onLane l f).onLane l g = s.onLane l fun n => g (f n) := by
  simp [State.onLane]

/-- A change of a lane is what it does to that lane's record. -/
theorem State.onLane_congr (l : Fin 16) (f g : Lane → Lane) (h : f s.lanes[l] = g s.lanes[l]) : s.onLane l f = s.onLane l g := by
  simp only [State.onLane, h]

theorem State.onLane_other (l m : Fin 16) (h : m ≠ l) (f : Lane → Lane) : (s.onLane l f).lanes[m] = s.lanes[m] := by
  have h' : l.val ≠ m.val := fun e => h (Fin.ext e.symm)
  simp [h']

@[simp] theorem State.onRef_same (p : Fin 4) (f : RefRecord → RefRecord) : (s.onRef p f).refs[p] = f s.refs[p] := by simp

theorem State.onRef_other (p q : Fin 4) (h : q ≠ p) (f : RefRecord → RefRecord) : (s.onRef p f).refs[q] = s.refs[q] := by
  have h' : p.val ≠ q.val := fun e => h (Fin.ext e.symm)
  simp [h']

@[simp] theorem State.commit_same (i : Fin 64) (c : Call) : (s.commit i c).slots[i] = some c.revised := by simp

theorem State.commit_other (i j : Fin 64) (h : j ≠ i) (c : Call) : (s.commit i c).slots[j] = s.slots[j] := by
  have h' : i.val ≠ j.val := fun e => h (Fin.ext e.symm)
  simp [h']

/-! ### The evaluation of the device grade -/

/-- An evaluation writes DG and may raise GRADE_CHANGE; nothing else (R51 to R53). -/
theorem State.evaluateWith_eq (u : Nat) :
    s.evaluateWith u = { s with
      trace := { s.trace with dg := evalGrade s.trace.settings s.inService s.trace.dg u }
      ops := if evalGrade s.trace.settings s.inService s.trace.dg u = s.trace.dg then s.ops
             else { s.ops with alerts := addAlert .gradeChange s.ops.alerts } } := by
  simp only [State.evaluateWith]
  split <;> rfl

@[simp] theorem State.evaluate_ts (t : Nat) : (s.evaluate t).ts = s.ts := by simp [State.evaluate, State.evaluateWith_eq]
@[simp] theorem State.evaluate_refs (t : Nat) : (s.evaluate t).refs = s.refs := by simp [State.evaluate, State.evaluateWith_eq]
@[simp] theorem State.evaluate_lanes (t : Nat) : (s.evaluate t).lanes = s.lanes := by simp [State.evaluate, State.evaluateWith_eq]
@[simp] theorem State.evaluate_slots (t : Nat) : (s.evaluate t).slots = s.slots := by simp [State.evaluate, State.evaluateWith_eq]
@[simp] theorem State.evaluate_groupMap (t : Nat) : (s.evaluate t).groupMap = s.groupMap := by simp [State.evaluate, State.evaluateWith_eq]
@[simp] theorem State.evaluate_expiry (t : Nat) : (s.evaluate t).expiry = s.expiry := by simp [State.evaluate, State.evaluateWith_eq]
@[simp] theorem State.evaluate_drawCount (t : Nat) : (s.evaluate t).drawCount = s.drawCount := by simp [State.evaluate, State.evaluateWith_eq]
@[simp] theorem State.evaluate_retained (t : Nat) : (s.evaluate t).retained = s.retained := by simp [State.evaluate, State.evaluateWith_eq]
@[simp] theorem State.evaluate_power (t : Nat) : (s.evaluate t).power = s.power := by simp [State.evaluate, State.evaluateWith_eq]
@[simp] theorem State.evaluate_resetPin (t : Nat) : (s.evaluate t).resetPin = s.resetPin := by simp [State.evaluate, State.evaluateWith_eq]
@[simp] theorem State.evaluate_pending (t : Nat) : (s.evaluate t).pending = s.pending := by simp [State.evaluate, State.evaluateWith_eq]
@[simp] theorem State.evaluate_backup (t : Nat) : (s.evaluate t).backup = s.backup := by simp [State.evaluate, State.evaluateWith_eq]

@[simp] theorem State.evaluate_dg (t : Nat) :
    (s.evaluate t).trace.dg = evalGrade s.trace.settings s.inService s.trace.dg (s.bound t) := by
  simp [State.evaluate, State.evaluateWith_eq]

@[simp] theorem State.evaluate_limits (t : Nat) : (s.evaluate t).ops.limits = s.ops.limits := by
  simp only [State.evaluate, State.evaluateWith_eq]
  split <;> rfl

@[simp] theorem State.evaluate_reply (t : Nat) : (s.evaluate t).ops.reply = s.ops.reply := by
  simp only [State.evaluate, State.evaluateWith_eq]
  split <;> rfl

end Sys2Proof.Machine
end

