-- ==== Sys2Proof/Laws/Lists.lean ====
section
/-! SUPPORT. The group map and the expiry list: every operation keeps the canonical form, and what is read after it. -/

namespace Sys2Proof.Machine

/-! ### The group map -/

/-- The canonical form, as a proposition. -/
theorem mapWf_iff (m : List (Nat × Fin 64)) :
    mapWf m = true ↔ (m.map Prod.fst).Pairwise (· < ·) ∧ ∀ e ∈ m, e.1 < 4096 := by
  simp [mapWf]

/-- The keys of a map after one key is mapped. -/
theorem mem_mapInsert {k : Nat} {i : Fin 64} {m : List (Nat × Fin 64)} {e : Nat × Fin 64} (h : e ∈ mapInsert k i m) :
    e = (k, i) ∨ e ∈ m := by
  induction m with
  | nil => simpa [mapInsert] using h
  | cons a m ih =>
    simp only [mapInsert] at h
    split at h
    · simpa using h
    · split at h
      · simp only [List.mem_cons] at h ⊢
        exact h.imp id Or.inr
      · simp only [List.mem_cons] at h ⊢
        rcases h with h | h
        · exact .inr (.inl h)
        · exact (ih h).imp id Or.inr

/-- Mapping a key in range keeps the canonical form (R116). -/
theorem mapInsert_wf {k : Nat} (hk : k < 4096) (i : Fin 64) {m : List (Nat × Fin 64)} (h : mapWf m = true) :
    mapWf (mapInsert k i m) = true := by
  rw [mapWf_iff] at h ⊢
  refine ⟨?_, fun e he => (mem_mapInsert he).elim (fun e' => e' ▸ hk) (h.2 e)⟩
  induction m with
  | nil => simp [mapInsert]
  | cons a m ih =>
    obtain ⟨hs, hb⟩ := h
    simp only [List.map_cons, List.pairwise_cons] at hs
    simp only [mapInsert]
    split
    · next hlt =>
      simp only [List.map_cons, List.pairwise_cons, List.mem_cons]
      refine ⟨fun x hx => ?_, hs⟩
      rcases hx with rfl | hx
      · exact hlt
      · exact Nat.lt_trans hlt (hs.1 x hx)
    · split
      · next he => simpa [he] using hs
      · next hge hne =>
        simp only [List.map_cons, List.pairwise_cons]
        refine ⟨fun x hx => ?_, ih ⟨hs.2, fun e he => hb e (List.mem_cons_of_mem _ he)⟩⟩
        obtain ⟨e, he, rfl⟩ := List.mem_map.1 hx
        rcases mem_mapInsert he with rfl | he
        · show a.1 < k
          omega
        · exact hs.1 _ (List.mem_map_of_mem he)

/-- Filtering keeps the canonical form. -/
theorem mapFilter_wf (p : Nat × Fin 64 → Bool) {m : List (Nat × Fin 64)} (h : mapWf m = true) :
    mapWf (m.filter p) = true := by
  rw [mapWf_iff] at h ⊢
  exact ⟨h.1.sublist ((List.filter_sublist (p := p) (l := m)).map Prod.fst), fun e he => h.2 e (List.mem_of_mem_filter he)⟩

/-- Unmapping a key keeps the canonical form (R128). -/
theorem mapErase_wf (k : Nat) {m : List (Nat × Fin 64)} (h : mapWf m = true) : mapWf (mapErase k m) = true := mapFilter_wf _ h

/-- Unmapping every key of a slot keeps the canonical form (R126). -/
theorem mapEraseSlot_wf (i : Fin 64) {m : List (Nat × Fin 64)} (h : mapWf m = true) : mapWf (mapEraseSlot i m) = true :=
  mapFilter_wf _ h

/-- A key just mapped is read at its slot. -/
theorem mapLookup_mapInsert_same (k : Nat) (i : Fin 64) (m : List (Nat × Fin 64)) : mapLookup k (mapInsert k i m) = some i := by
  induction m with
  | nil => simp [mapLookup, mapInsert]
  | cons a m ih =>
    simp only [mapInsert]
    split
    · simp [mapLookup]
    · split
      · simp [mapLookup]
      · next hge hne =>
        have : (a.1 == k) = false := by simp; omega
        simpa [mapLookup, this] using ih

/-- Mapping a key leaves the reading of every other key. -/
theorem mapLookup_mapInsert_other {k j : Nat} (h : j ≠ k) (i : Fin 64) (m : List (Nat × Fin 64)) :
    mapLookup j (mapInsert k i m) = mapLookup j m := by
  induction m with
  | nil => simp [mapLookup, mapInsert, Ne.symm h]
  | cons a m ih =>
    have hk : (k == j) = false := by simp [Ne.symm h]
    simp only [mapInsert]
    split
    · simp [mapLookup, hk]
    · split
      · next he => simp [mapLookup, ← he, hk]
      · simp only [mapLookup, List.find?_cons] at ih ⊢
        split <;> simp_all

/-! ### The expiry list -/

/-- The canonical form, as a proposition. -/
theorem expiryWf_iff (l : List (Nat × Fin 64)) :
    expiryWf l = true ↔ (l.Pairwise fun a b => a.1 < b.1 ∨ a.1 = b.1 ∧ a.2 < b.2) ∧ (l.map Prod.snd).Nodup := by
  simp [expiryWf]

/-- The entries of a list after one joins. -/
theorem mem_expiryInsert {d : Nat} {i : Fin 64} {l : List (Nat × Fin 64)} {e : Nat × Fin 64} :
    e ∈ expiryInsert d i l ↔ e = (d, i) ∨ e ∈ l := by
  induction l with
  | nil => simp [expiryInsert]
  | cons a l ih =>
    simp only [expiryInsert]
    split
    · simp
    · simp only [List.mem_cons, ih]
      tauto

/-- No entry of a slot is left once it is removed. -/
theorem expiryRemove_clear (i : Fin 64) (l : List (Nat × Fin 64)) : i ∉ (expiryRemove i l).map Prod.snd := by
  simp [expiryRemove]

/-- Removing a slot's entry keeps the canonical form (R131). -/
theorem expiryRemove_wf (i : Fin 64) {l : List (Nat × Fin 64)} (h : expiryWf l = true) : expiryWf (expiryRemove i l) = true := by
  rw [expiryWf_iff] at h ⊢
  exact ⟨h.1.sublist List.filter_sublist, h.2.sublist (List.filter_sublist.map _)⟩

/-- An entry of a slot that has none joins in canonical form (R131). -/
theorem expiryInsert_wf (d : Nat) {i : Fin 64} {l : List (Nat × Fin 64)} (hi : i ∉ l.map Prod.snd) (h : expiryWf l = true) :
    expiryWf (expiryInsert d i l) = true := by
  rw [expiryWf_iff] at h ⊢
  induction l with
  | nil => simp [expiryInsert]
  | cons a l ih =>
    obtain ⟨hs, hn⟩ := h
    simp only [List.map_cons, List.mem_cons, not_or] at hi
    simp only [List.pairwise_cons] at hs
    simp only [List.map_cons, List.nodup_cons] at hn
    simp only [expiryInsert]
    split
    · next hle =>
      have hlt : d < a.1 ∨ d = a.1 ∧ i < a.2 := hle.imp id fun x => ⟨x.1, lt_of_le_of_ne x.2 hi.1⟩
      refine ⟨?_, by simp [hi.1, hi.2, hn.1, hn.2]⟩
      simp only [List.pairwise_cons, List.mem_cons]
      refine ⟨fun x hx => ?_, hs⟩
      rcases hx with rfl | hx
      · exact hlt
      · rcases hlt with h1 | h1 <;> rcases hs.1 x hx with h2 | h2
        · exact .inl (h1.trans h2)
        · exact .inl (h2.1 ▸ h1)
        · exact .inl (h1.1 ▸ h2)
        · exact .inr ⟨h1.1.trans h2.1, h1.2.trans h2.2⟩
    · next hnle =>
      obtain ⟨ih1, ih2⟩ := ih hi.2 ⟨hs.2, hn.2⟩
      refine ⟨?_, ?_⟩
      · simp only [List.pairwise_cons]
        refine ⟨fun x hx => ?_, ih1⟩
        rcases mem_expiryInsert.1 hx with rfl | hx
        · have h1 : ¬ d < a.1 := fun h => hnle (.inl h)
          have h2 : ¬ (d = a.1 ∧ i ≤ a.2) := fun h => hnle (.inr h)
          show a.1 < d ∨ a.1 = d ∧ a.2 < i
          rcases Nat.lt_or_ge a.1 d with h | h
          · exact .inl h
          · have he : d = a.1 := by omega
            exact .inr ⟨he.symm, not_le.1 fun hle => h2 ⟨he, hle⟩⟩
        · exact hs.1 x hx
      · simp only [List.map_cons, List.nodup_cons]
        refine ⟨fun hx => ?_, ih2⟩
        obtain ⟨e, he, hae⟩ := List.mem_map.1 hx
        rcases mem_expiryInsert.1 he with rfl | he
        · exact hi.1 hae
        · exact hn.1 (hae ▸ List.mem_map_of_mem he)

/-- Replacing a slot's entry keeps the canonical form (R131). -/
theorem expiryRefile_wf (i : Fin 64) (due : Option Nat) {l : List (Nat × Fin 64)} (h : expiryWf l = true) :
    expiryWf (expiryRefile i due l) = true := by
  cases due with
  | none => exact expiryRemove_wf i h
  | some d => exact expiryInsert_wf d (expiryRemove_clear i l) (expiryRemove_wf i h)

/-- The due time read of a slot whose entry has been removed. -/
theorem expiryOf_remove_same (i : Fin 64) (l : List (Nat × Fin 64)) : expiryOf i (expiryRemove i l) = none := by
  have h : ∀ e ∈ expiryRemove i l, ¬ (e.2 == i) = true := by simp [expiryRemove]
  simp [expiryOf, List.find?_eq_none.2 h]

/-- Removing a slot's entry leaves every other slot's due time. -/
theorem expiryOf_remove_other {i j : Fin 64} (h : j ≠ i) (l : List (Nat × Fin 64)) :
    expiryOf j (expiryRemove i l) = expiryOf j l := by
  simp only [expiryOf, expiryRemove, List.find?_filter]
  congr 2
  funext e
  by_cases he : e.2 = j
  · simp [he, h]
  · simp [he]

/-- The due time read of a slot whose entry has just joined a list that held none of it. -/
theorem expiryOf_insert_same (d : Nat) {i : Fin 64} {l : List (Nat × Fin 64)} (hi : i ∉ l.map Prod.snd) :
    expiryOf i (expiryInsert d i l) = some d := by
  induction l with
  | nil => simp [expiryOf, expiryInsert]
  | cons a l ih =>
    simp only [List.map_cons, List.mem_cons, not_or] at hi
    have ha : (a.2 == i) = false := by simp [Ne.symm hi.1]
    simp only [expiryInsert]
    split
    · simp [expiryOf]
    · simpa [expiryOf, ha] using ih hi.2

/-- An entry that joins leaves every other slot's due time. -/
theorem expiryOf_insert_other (d : Nat) {i j : Fin 64} (h : j ≠ i) (l : List (Nat × Fin 64)) :
    expiryOf j (expiryInsert d i l) = expiryOf j l := by
  have hi : (i == j) = false := by simp [Ne.symm h]
  induction l with
  | nil => simp [expiryOf, expiryInsert, hi]
  | cons a l ih =>
    simp only [expiryInsert]
    split
    · simp [expiryOf, hi]
    · simp only [expiryOf, List.find?_cons] at ih ⊢
      split <;> simp_all

/-- After a refiling the slot's due time is the one given (R131). -/
theorem expiryOf_refile_same (i : Fin 64) (due : Option Nat) (l : List (Nat × Fin 64)) :
    expiryOf i (expiryRefile i due l) = due := by
  cases due with
  | none => exact expiryOf_remove_same i l
  | some d => exact expiryOf_insert_same d (expiryRemove_clear i l)

/-- A refiling leaves every other slot's due time. -/
theorem expiryOf_refile_other {i j : Fin 64} (h : j ≠ i) (due : Option Nat) (l : List (Nat × Fin 64)) :
    expiryOf j (expiryRefile i due l) = expiryOf j l := by
  cases due with
  | none => exact expiryOf_remove_other h l
  | some d => exact (expiryOf_insert_other d h _).trans (expiryOf_remove_other h l)

/-- Reset's lists are in canonical form. -/
theorem reset_lists_wf : mapWf State.reset.groupMap = true ∧ expiryWf State.reset.expiry = true := by decide

end Sys2Proof.Machine
end

