-- ==== Sys2Proof/Laws/Requests.lean ====
section
/-! SUPPORT. What the shared operations do, said once: an event of a running part, the taking of a request, the resolution of
an addressing form, and the handing of a notice. -/

namespace Sys2Proof.Machine

/-- An event of a running part: time passes, and the event acts. -/
theorem atEvent_running {s : State} (h : s.power = .running) (dt : Nat) (act : State → State) :
    s.atEvent dt act = .next (act (s.elapse dt)) := by
  simp [State.atEvent, h]

/-- An event of a part that is held or has no power has no effect (R162). -/
theorem atEvent_still {s : State} (h : s.power ≠ .running) (dt : Nat) (act : State → State) : s.atEvent dt act = .next s := by
  unfold State.atEvent
  split <;> simp_all

/-- A kind's byte names it (11.3). -/
@[simp] theorem Kind.ofByte_byte (k : Kind) : Kind.ofByte k.byte = some k := by cases k <;> rfl

/-- The form check of a known kind is the table's lengths for the path (R169). -/
@[simp] theorem formOk_byte (p : Path) (k : Kind) (n : Nat) : formOk p k.byte n = k.allows p n := by simp [formOk]

/-- No kind allows a payload longer than a frame may carry. -/
theorem Kind.allows_short {k : Kind} {p : Path} {n : Nat} (h : k.allows p n = true) : n ≤ 248 := by
  cases k <;> cases p <;> simp [Kind.allows] at h <;> omega

/-- What the end of a frame on a lane can do: nothing where none is in reception; else it is discarded and counted for its length, or
goes with its latch to `act` (R68). -/
theorem laneFrame_cases (l : Fin 16) (payload : List Byte) (act : Nat → State → State) (s : State) :
    laneFrame l payload act s = s ∨
    ∃ latch, s.lanes[l].up = true ∧ s.lanes[l].rxLatch = some latch ∧
      (248 < payload.length ∧ laneFrame l payload act s = s.onLane l Lane.frameError ∨
       payload.length ≤ 248 ∧ laneFrame l payload act s = act latch s) := by
  unfold laneFrame
  split
  · next latch hup hl =>
    refine .inr ⟨latch, hup, hl, ?_⟩
    split
    · next h => exact .inl ⟨h, rfl⟩
    · next h => exact .inr ⟨Nat.not_lt.1 h, rfl⟩
  · exact .inl rfl

/-- The end of a whole frame in reception (R68). -/
theorem laneFrame_whole {l : Fin 16} {latch : Nat} {payload : List Byte} {s : State} (hup : s.lanes[l].up = true)
    (hl : s.lanes[l].rxLatch = some latch) (h : payload.length ≤ 248) (act : Nat → State → State) :
    laneFrame l payload act s = act latch s := by
  simp only [laneFrame, hup, hl, if_neg (Nat.not_lt.2 h)]

/-- A request that ends at an UP lane whose queue is empty, with a reply entry free, is answered at once: it has joined the queue and
left it again, and its reply joins the transmit queue (R70, R71, R75, R76). -/
theorem requestEnds_at_once {l : Fin 16} {latch : Nat} {s : State} (hup : s.lanes[l].up = true)
    (hl : s.lanes[l].rxLatch = some latch) (hq : s.lanes[l].queue = []) (hn : s.lanes[l].replies < 8) (kind : Byte) (tag : Tag)
    {payload : List Byte} (hw : payload.length ≤ 248) (answer : Request → State → State × Answer) :
    let r := answer { latch, kind, tag, payload } (s.onLane l fun n => { n with rxLatch := none })
    requestEnds l kind tag payload answer s =
      r.1.onLane l (Lane.join (.reply { kind, tag, code := r.2.code, ind := r.2.ind, body := r.2.body })) := by
  have hj : s.onLane l (Lane.enqueue { latch, kind, tag, payload }) =
      s.onLane l fun n => { n with rxLatch := none, queue := [{ latch, kind, tag, payload }] } := by
    apply State.onLane_congr
    simp only [Lane.enqueue, hq, List.length_nil, queueSize]
    rfl
  have hp : (s.onLane l fun n => { n with rxLatch := none, queue := ([] : List Request) }) =
      s.onLane l fun n => { n with rxLatch := none } := by
    apply State.onLane_congr
    rw [← hq]
  simp only [requestEnds, laneFrame_whole hup hl hw, hq, List.isEmpty_nil, if_true, hj, takeHead]
  rw [State.onLane_same]
  simp only [State.onLane_onLane, hp]
  rw [if_pos ⟨hup, by simpa [Lane.replies, shareSize] using hn⟩]

/-- A lane's request that is taken at its end passes form and role, and its block acts (R71 to R73). -/
theorem takeFromLane_of_taken {k : Kind} {l : Fin 16} {tag : Tag} {payload : List Byte} {s : State} {r : Taken}
    (h : s.taken k (.lane l tag payload) = some r) (blk : Block) :
    requestEnds l k.byte tag payload (laneAnswer k blk l) s =
      r.reply k (blk r.path r.instant r.payload r.state).2 (blk r.path r.instant r.payload r.state).1 := by
  cases hq : s.lanes[l].rxLatch with
  | none => simp only [State.taken, hq] at h; cases h
  | some latch =>
    simp only [State.taken, hq] at h
    split at h
    · next hc =>
      obtain ⟨hup, hempty, hn, hf, hr⟩ := hc
      cases h
      have hr' : (s.onLane l fun n => { n with rxLatch := none }).lanes[l].settings.roles.allow k = true := by
        rw [State.onLane_same]; exact hr
      rw [requestEnds_at_once hup hq hempty hn _ _ (Kind.allows_short hf)]
      simp only [laneAnswer, formOk_byte, hf, hr', Bool.not_true, Taken.reply]
      rfl
    · cases h

/-- An operations request that is taken (R152, R153). -/
theorem takeFromOps_of_taken {k : Kind} {tag : Tag} {payload : List Byte} {s : State} {r : Taken}
    (h : s.taken k (.ops tag payload) = some r) (blk : Block) :
    takeFromOps k tag payload blk s =
      r.reply k (blk r.path r.instant r.payload r.state).2 (blk r.path r.instant r.payload r.state).1 := by
  simp only [State.taken] at h
  split at h
  · next hc =>
    obtain ⟨hw, he, hf, hl⟩ := hc
    cases h
    have hs : ¬ 248 < payload.length := Nat.not_lt.2 (Kind.allows_short hf)
    simp [takeFromOps, opsWrite, opsAnswer, writeByte, OpsPort.endWrite, hw, hs, he, hf, hl, State.holdReply, Taken.reply, State.now]
  · cases h

/-- A request that is taken, on either path: its block acts on what the taking hands it, and its reply is placed. -/
theorem takeRequest_of_taken {k : Kind} {src : Source} {s : State} {r : Taken} (h : s.taken k src = some r) (blk : Block) :
    takeRequest k src blk s = r.reply k (blk r.path r.instant r.payload r.state).2 (blk r.path r.instant r.payload r.state).1 := by
  cases src with
  | lane l tag payload => exact takeFromLane_of_taken h blk
  | ops tag payload => exact takeFromOps_of_taken h blk

/-- A lane's record after a notice is handed to a set (R79). -/
theorem handNotice_lane (set : LaneSet) (f : TxFrame) (s : State) (l : Fin 16) :
    (s.handNotice set f).lanes[l] = if set.getLsbD l then s.lanes[l].placeNotice f else s.lanes[l] := by
  simp [State.handNotice]

/-- What the placing of a notice can do to a lane: it joins, or is counted lost, or the lane is DOWN (R79). -/
theorem placeNotice_cases (f : TxFrame) (n : Lane) :
    (n.up = true ∧ n.notices < 8 ∧ n.placeNotice f = n.join f) ∨
    (n.up = true ∧ 8 ≤ n.notices ∧
      n.placeNotice f = { n with counts := { n.counts with noticesLost := min 65535 (n.counts.noticesLost + 1) } }) ∨
    (n.up = false ∧ n.placeNotice f = n) := by
  unfold Lane.placeNotice
  split
  · next h =>
    split
    · next hn => exact .inl ⟨h, hn, rfl⟩
    · next hn => exact .inr (.inl ⟨h, Nat.not_lt.1 hn, rfl⟩)
  · next h => exact .inr (.inr ⟨by simpa using h, rfl⟩)

/-- What the answering of a lane's request can do: it is refused with no effect, or its block acts (R72, R73). -/
theorem laneAnswer_cases (k : Kind) (blk : Block) (l : Fin 16) (q : Request) (s : State) :
    laneAnswer k blk l q s = refuse .badForm s ∨ laneAnswer k blk l q s = refuse .noRight s ∨
    (formOk (.lane l) q.kind q.payload.length = true ∧ s.lanes[l].settings.roles.allow k = true ∧
      laneAnswer k blk l q s = blk (.lane l) q.latch q.payload s) := by
  unfold laneAnswer
  split
  · exact .inl rfl
  · next hf =>
    split
    · exact .inr (.inl rfl)
    · next hr => exact .inr (.inr ⟨by simpa using hf, by simpa using hr, rfl⟩)

/-- What the answering of a queued request can do, whatever its kind: it is refused BAD_FORM with no effect, or the laneAnswer of its
kind (R71, R72). -/
theorem headAnswer_cases (l : Fin 16) (q : Request) (s : State) :
    headAnswer l q s = refuse .badForm s ∨
    ∃ k, Kind.ofByte q.kind = some k ∧ headAnswer l q s = laneAnswer k k.block l q s := by
  unfold headAnswer
  split
  · next k h => exact .inr ⟨k, h, rfl⟩
  · exact .inl rfl

/-- What the taking of a waiting request can do: nothing, or the head of the queue leaves it and is answered (R71, R76). -/
theorem takeHead_cases (l : Fin 16) (answer : Request → State → State × Answer) (s : State) :
    takeHead l answer s = s ∨
    ∃ (q : Request) (rest : List Request) (r : State × Answer),
      s.lanes[l].queue = q :: rest ∧ s.lanes[l].up = true ∧ s.lanes[l].replies < 8 ∧
      r = answer q (s.onLane l fun n => { n with queue := rest }) ∧
      takeHead l answer s =
        r.1.onLane l (Lane.join (.reply
          { kind := q.kind, tag := q.tag, code := r.2.code, ind := r.2.ind, body := r.2.body })) := by
  unfold takeHead
  split
  · exact .inl rfl
  · next q rest hq =>
    split
    · next h => exact .inr ⟨q, rest, _, hq, h.1, h.2, rfl, rfl⟩
    · exact .inl rfl

/-- What the end of a request frame can do: nothing where no frame is in reception; else it is discarded for its length, or it joins,
or is an overrun, and where the queue was empty it is taken (R68, R70, R71). -/
theorem requestEnds_cases (l : Fin 16) (kind : Byte) (tag : Tag) (payload : List Byte)
    (answer : Request → State → State × Answer) (s : State) :
    requestEnds l kind tag payload answer s = s ∨
    ∃ latch, s.lanes[l].up = true ∧ s.lanes[l].rxLatch = some latch ∧
      (248 < payload.length ∧ requestEnds l kind tag payload answer s = s.onLane l Lane.frameError ∨
       s.lanes[l].queue ≠ [] ∧
        requestEnds l kind tag payload answer s = s.onLane l (Lane.enqueue { latch, kind, tag, payload }) ∨
       s.lanes[l].queue = [] ∧
        requestEnds l kind tag payload answer s =
          takeHead l answer (s.onLane l (Lane.enqueue { latch, kind, tag, payload }))) := by
  unfold requestEnds
  obtain h | ⟨latch, hup, hl, ⟨hw, h⟩ | ⟨hw, h⟩⟩ := laneFrame_cases l payload (fun latch s =>
    let s' := s.onLane l (Lane.enqueue { latch, kind, tag, payload })
    if s.lanes[l].queue.isEmpty then takeHead l answer s' else s') s
  · exact .inl h
  · exact .inr ⟨latch, hup, hl, .inl ⟨hw, h⟩⟩
  · refine .inr ⟨latch, hup, hl, .inr ?_⟩
    rw [h]
    cases hq : s.lanes[l].queue with
    | nil => exact .inr ⟨rfl, by simp⟩
    | cons q rest => exact .inl ⟨by simp, by simp⟩

/-- What a WRITE transaction can do: nothing where none is in progress; else it is discarded, refused BUSY, or its frame is
taken (R152). -/
theorem opsWrite_cases (payload : List Byte) (act : State → State) (s : State) :
    (s.ops.spi ≠ some 165 ∧ opsWrite payload act s = s) ∨
    (248 < payload.length ∧ opsWrite payload act s = { s with ops := { s.ops with lastWrite := .discarded, spi := none } }) ∨
    (s.ops.reply.isSome = true ∧ opsWrite payload act s = { s with ops := { s.ops with lastWrite := .busy, spi := none } }) ∨
    (payload.length ≤ 248 ∧ s.ops.reply = none ∧ s.ops.spi = some 165 ∧
      opsWrite payload act s = act { s with ops := { s.ops with lastWrite := .taken, spi := none } }) := by
  unfold opsWrite
  split
  · next hw =>
    split
    · next h => exact .inr (.inl ⟨h, rfl⟩)
    · next h =>
      split
      · next hr => exact .inr (.inr (.inl ⟨hr, rfl⟩))
      · next hr => exact .inr (.inr (.inr ⟨Nat.not_lt.1 h, by simpa using hr, hw, rfl⟩))
  · next hw => exact .inl ⟨hw, rfl⟩

/-- What the release of a READ can do: the reply is read out and leaves the buffer, or the port keeps what it holds (R154). -/
theorem endRead_cases (part : OpsTransfer) (o : OpsPort) :
    (o.endRead part).reply = o.reply ∨
    (o.endRead part).reply = none ∧ (part = .complete ∨ ∃ r n, o.reply = some r ∧ part = .released n ∧ r.bytes.length ≤ n) := by
  unfold OpsPort.endRead
  split
  · exact .inr ⟨rfl, .inl rfl⟩
  · next r n hr =>
    split
    · next h => exact .inr ⟨rfl, .inr ⟨r, n, hr, rfl, h⟩⟩
    · exact .inl rfl
  · exact .inl rfl
  · exact .inl rfl
  · exact .inl rfl

/-- What the answering of an operations request can do: it is refused with no effect, or its block acts (R153). -/
theorem opsAnswer_cases (k : Kind) (payload : List Byte) (blk : Block) (s : State) :
    opsAnswer k payload blk s = refuse .badForm s ∨ opsAnswer k payload blk s = refuse .noRight s ∨
    (k.allows .ops payload.length = true ∧ k.laneOnly = false ∧ opsAnswer k payload blk s = blk .ops s.now payload s) := by
  unfold opsAnswer
  split
  · exact .inl rfl
  · next hf =>
    split
    · exact .inr (.inl rfl)
    · next hl => exact .inr (.inr ⟨by simpa using hf, by simpa using hl, rfl⟩)

/-- A form that resolves leaves the state as it was, or moves the path's cursor to the slot found (R117, R118). -/
theorem resolve_cases {p : Path} {f : Form} {s s' : State} {i : Fin 64} {wrap : Bool} (h : s.resolve p f = .ok (i, wrap, s')) :
    (s' = s ∧ wrap = false) ∨ s' = s.moveCursor p i := by
  cases f with
  | slot n =>
    simp only [State.resolve] at h
    split at h
    · cases h; exact .inl ⟨rfl, rfl⟩
    · cases h
  | key k =>
    simp only [State.resolve] at h
    split at h
    · cases h
    · split at h
      · cases h; exact .inl ⟨rfl, rfl⟩
      · cases h
  | next =>
    simp only [State.resolve] at h
    split at h
    · cases h; exact .inr rfl
    · cases h
  | prev =>
    simp only [State.resolve] at h
    split at h
    · cases h; exact .inr rfl
    · cases h

/-- What a request with an addressing form can do: it is refused with no effect, or its entry acts on the slot found (R117). -/
theorem addressed_cases (off : Nat) (p : Path) (b : List Byte) (act : Fin 64 → State → State × Answer) (s : State) :
    (∃ c, addressed off p b act s = refuse c s) ∨
    ∃ (i : Fin 64) (wrap : Bool) (s' : State), ((s' = s ∧ wrap = false) ∨ s' = s.moveCursor p i) ∧
      addressed off p b act s = ((act i s').1, (act i s').2.withWrap wrap) := by
  unfold addressed
  split
  · exact .inl ⟨_, rfl⟩
  · next f _ =>
    split
    · exact .inl ⟨_, rfl⟩
    · next i wrap s' h => exact .inr ⟨i, wrap, s', resolve_cases h, rfl⟩

end Sys2Proof.Machine
end

