-- ==== Sys2Proof/Tests/Slice0.lean ====
section
/-! SUPPORT. Tests of the model against figures that spec/ gives, and a witness of the hypotheses of each statement. A test's
expected values come from the worked case or the rule that its comment names. -/

namespace Sys2Proof.Tests

-- One theorem after another: evaluations that wait for each other would hold a thread each.
set_option Elab.async false

open Sys2Proof Sys2Proof.Machine

/-! ### What the tests look at -/

/-- The command answers a next state that meets `p`. -/
def after (c : Instr) (s : State) (p : State → Bool) : Bool :=
  match exec c s with
  | .next t => p t
  | .fault _ => false
  | .refused _ => false

/-- One step answers a next state that meets `p`. -/
def stepped (s : State) (p : State → Bool) : Bool :=
  match step s with
  | .next t => p t
  | .fault _ => false
  | .refused _ => false

/-- A request of kind `k` is taken in `s` as the command's instant finds it, and what is taken meets `p`. -/
def meets (k : Kind) (src : Source) (s : State) (p : Taken → Bool) : Bool := ((s.elapse 0).taken k src).any p

/-- The last frame of lane `l`'s transmit queue is a reply that meets `p`. -/
def replied (l : Fin 16) (p : Reply → Bool) (s : State) : Bool :=
  match s.lanes[l].tx.getLast? with
  | some (.reply r) => p r
  | _ => false

/-- The operations port holds a reply that meets `p`. -/
def answered (p : Reply → Bool) (s : State) : Bool := s.ops.reply.any p

/-! ### Small states -/

/-- A reference record that has accepted a mark of second `sec`, latched at that exchange time and at raw count `raw`. -/
def heard (st : RefState) (sec raw : Nat) : RefRecord :=
  { RefRecord.atReset with
    state := st, lastPhi := some ((sec * second : Nat) - (raw : Int)), lastRaw := some raw
    lastTheta := some (0, sec * second), good := 6, silence := some raw }

/-- A transaction whose first byte is `first` is in progress at the operations port. -/
def spi (first : Byte) (s : State) : State := { s with ops := { s.ops with spi := some first } }

/-- The state after reset, with a WRITE in progress. -/
def fresh : State := spi 165 State.reset

/-- LOCKED on RP0 with DG A, RP1 and RP2 READY; each reference's last mark is the whole second before `ns`, raw count 5 s. A WRITE is
in progress at the port. -/
def serving (ns : Nat) : State :=
  { fresh with
    ts := { Timescale.atReset Retained.lost with
      ns, raw := 5000000000 + ns % second, rate := 2518188, state := .locked, anchor := some (0, 5000000000)
      lastMark := some (40, ns - ns % second) }
    refs := #v[heard .active (ns / second) 5000000000, heard .ready (ns / second) 5000000000,
               heard .ready (ns / second) 5000000000, RefRecord.atReset]
    trace := { Trace.atReset with dg := .a, nextSample := secondAfter ns } }

/-- `serving` at exchange time 1000057600.000000000. -/
def live : State := serving 1000057600000000000

/-- The same references in ACQUIRING, one mark short of lock. -/
def acquiring : State :=
  { live with ts := { live.ts with state := .acquiring, lockCount := 3 }, trace := Trace.atReset }

/-- The part held at reset by its pin, and without power. -/
def held : State := { live with power := .held .resetPin, resetPin := true }

/-- The part without main power. -/
def off : State := { live with power := .off }

/-- Lane `l` UP with all three roles. -/
def up (l : Fin 16) (s : State) : State :=
  s.onLane l fun n => { n with up := true, settings := { n.settings with roles := ⟨true, true, true⟩ } }

/-- A frame is in reception at lane `l`, UP with all three roles, its start delimiter latched at instant `latch`. -/
def asks (l : Fin 16) (latch : Nat) (s : State) : State := (up l s).onLane l fun n => { n with rxLatch := some latch }

/-- The end of a request frame at lane `l`. -/
def ends (l : Fin 16) (payload : List Byte) : Source := .lane l 7 payload

/-- A reply, and eight of them: a reply share that is full. -/
def plain : Reply := { kind := 1, tag := 0, code := .done, ind := .clear, body := .empty }

def backedUp : List TxFrame := List.replicate 8 (.reply plain)

/-- The call of the worked cases: T_open 1000057540, T_sched 1000057570, W_r 30 s, required grade B, lanes LP2 and LP5. -/
def call (ph : Phase) : Call :=
  { phase := ph, revision := 3, tOpen := 1000057540000000000, tSched := 1000057570000000000, wr := 30000000
    tEnd := if ph = .scheduled ∨ ph = .call ∨ ph = .cancelled then none else some 1000057588541019000
    draw := if ph = .scheduled ∨ ph = .call ∨ ph = .cancelled then none else some 2654435769
    extMin := 1000, extMax := 300000, extCap := 3, extUsed := 0, holdStep := 30000, holdMax := 2, holdsUsed := 0
    required := .b, notices := 0x24, inCall := 0, late := 0, stragglers := 0, latestIn := none
    closeGrade := if ph = .settling ∨ ph = .uncrossDue then some .a else none
    untracedFlag := if ph = .settling ∨ ph = .uncrossDue then some false else none, cancelCause := none }

/-- The call stands in slot `i`, with its expiry entry. -/
def stands (i : Fin 64) (c : Call) (s : State) : State :=
  { s with slots := s.slots.set i (some c), expiry := expiryRefile i (c.dueTime s.ops.limits) s.expiry }

/-- Key `k` holds slot `i`. -/
def keyed (k : Nat) (i : Fin 64) (s : State) : State := { s with groupMap := mapInsert k i s.groupMap }

/-- The end of a request frame at the operations port. -/
def port (payload : List Byte) : Source := .ops 7 payload

/-- The addressing forms as bytes (11.1). -/
def slotForm (n : Nat) : List Byte := [0] ++ toBytes 2 n

def keyForm (n : Nat) : List Byte := [1] ++ toBytes 2 n

def nextForm : List Byte := [2, 0, 0]

def prevForm : List Byte := [3, 0, 0]

/-! ### Well-formed commands -/

theorem test_ill_formed_announcement_at_pulse_and_code_port :
    WellFormed (.announcement 0 0 (List.replicate 10 0) false) = false := by decide

theorem test_ill_formed_announcement_of_nine_characters :
    WellFormed (.announcement 0 2 (List.replicate 9 0) false) = false := by decide

theorem test_ill_formed_breaks_and_window_at_pulse_and_code_port :
    WellFormed (.announcementCutShort 0 1) = false ∧ WellFormed (.announcementBreak 0 0) = false ∧
    WellFormed (.announceWindowExpiry 0 1) = false := by decide

theorem test_well_formed_announcement : WellFormed (.announcement 0 3 (List.replicate 10 0) true) = true := by decide

/-! ### The queue of commands -/

theorem test_step_runs_the_front_alone :
    stepped { State.reset with pending := [.linkUp 5 3, .powerLoss] }
      (fun t => t.lanes[3].up && t.ts.ns == 5 && t.pending == [.powerLoss] && t.power == .running) = true := by
  decide +kernel

/-- No row of the table gives bits. -/
theorem test_no_word_spells_a_command : decodeTableWord 16 0x1234 = none ∧ decodeTableWord 0 0 = none := by decide

/-! ### Exchange time (1.3, 1.9) -/

/-- "Draining a slew": S = +300 at Smax 50,000,000 ends after 6,000,000 ns of raw count; r = 2,518,750 adds 15.1125 ns to it. -/
theorem test_slew_of_300_drains_in_6_ms :
    after (.slewEnd 6000000) { live with ts := { live.ts with slew := 300 * unit, rate := 2518750 } } (fun t =>
      t.ts.slew == 0 && t.ts.ns == live.ts.ns + 6000315 && t.ts.frac == 112500000000) = true ∧
    after (.slewEnd 5999999) { live with ts := { live.ts with slew := 300 * unit, rate := 2518750 } } (fun t =>
      decide (0 < t.ts.slew)) = true := by
  decide +kernel

/-- "Two marks in LOCKED": θ = +300 over 10^9 raw ns moves r from 2,500,000 to 2,518,750, and sets S to +300. -/
theorem test_locked_mark_of_300 :
    after (.pulseEdge 0 0 .rising (BitVec.ofNat 48 1000057601) false)
      { live with ts := { live.ts with ns := 1000057600999999700, raw := 6000000000, rate := 2500000 } } (fun t =>
      t.ts.rate == 2518750 && t.ts.slew == 300 * unit && t.ts.anchor == some (0, 6000000000)
        && t.ts.lastMark == some (100, 1000057600999999700) && t.retained.savedRate == 2518750 && t.retained.valid)
      = true := by
  decide +kernel

/-- The second mark of the same case: θ = −45 moves r from 2,518,750 by −2,812 to 2,515,938. -/
theorem test_locked_mark_of_minus_45 :
    after (.pulseEdge 0 0 .rising (BitVec.ofNat 48 1000057601) false)
      { live with ts := { live.ts with ns := 1000057601000000045, raw := 6000000000, rate := 2518750 } } (fun t =>
      t.ts.rate == 2515938 && t.ts.slew == -45 * (unit : Int)) = true := by
  decide +kernel

/-- 1.9, mark 1: in UNSET the eighth good mark makes RP0 READY and ACTIVE, and steps to 1000057000.000000120. -/
theorem test_first_mark_steps_exchange_time :
    after (.pulseEdge 0 0 .rising (BitVec.ofNat 48 1000057000) false)
      { (State.reset.onRef 0 fun _ =>
          { RefRecord.atReset with
            state := .qualifying, good := 7, config := { RefConfig.atReset with delay := 120 }, silence := some 0 }) with
        ts := { State.reset.ts with ns := 9000000000, raw := 9000000000 } } (fun t =>
      t.ts.state == .acquiring && t.refs[0].state == .active && t.ts.ns == 1000057000000000120 && t.ts.slew == 0
        && t.ts.lockCount == 0 && t.ts.anchor == none && t.ts.lastMark == some (100, 1000057000000000120)
        && hasAlert .activeChanged t.ops.alerts) = true := by
  decide +kernel

/-- R21: a value out of range writes none of the six. -/
theorem test_set_timescale_out_of_range :
    after (.setTimescale 0 (port (toBytes 1 33 ++ toBytes 4 1000 ++ toBytes 4 1000000 ++ toBytes 4 100000000
        ++ toBytes 4 50000000 ++ toBytes 1 4))) live (fun t =>
      t.ts == live.ts && answered (fun r => r.code == .range) t) = true := by
  decide +kernel

/-! ### References (2.3, 2.10, R170) -/

/-- "A shortened code": P = 1,000,057,599, w = 16. -/
theorem test_width_extension :
    predictedSecond 1000057599000000312 0 = 1000057599 ∧ nearestCount 16 43776 1000057599 = 1000057600 ∧
    nearestCount 16 11007 1000057599 = 1000024831 ∧ grayDecode 65152 16 false 0 = 43776 := by
  decide +kernel

/-- 2.10: the predicted change of φ over one second is 2,518 ns, and over two 5,036 ns. -/
theorem test_predicted_change_of_phi :
    ((999997482 : Int) * 2518188).tdiv (10 ^ 12) = 2518 ∧ ((1999994964 : Int) * 2518188).tdiv (10 ^ 12) = 5036 := by
  decide

/-- 2.10, second episode: RP2's θ of 5,300 against S = 25 disputes it, and with RP1 disputed at 4,900 outvotes RP0. -/
def drifted : State :=
  ({ live with ts := { live.ts with slew := 25 * unit } }.onRef 1 fun r =>
    { r with disputed := true, lastTheta := some (4900, 0) }).onRef 2 fun r => { r with lastTheta := some (5300, 0) }

def driftMark : Mark :=
  { tMark := 1000057600000000000, rawMark := 5000000000, tRef := 1000057600000005300, uRef := 100 }

theorem test_outvote :
    (let t := drifted.voteMark 2 0 driftMark 5300
     t.refs[0].state == .failed && t.refs[0].cause == some .outvoted && t.ts.state == .holdover && t.ts.slew == 25 * unit
       && !t.refs[1].disputed && !t.refs[2].disputed && hasAlert .referenceDispute t.ops.alerts) = true := by
  decide +kernel

/-- R30: the third rejection in a row of a READY reference re-anchors it on its mark, in QUALIFYING. -/
theorem test_third_rejection_reanchors :
    after (.pulseEdge 1000000000 1 .rising (BitVec.ofNat 48 1000057700) false)
      (live.onRef 1 fun r => { r with rejects := 2 }) (fun t =>
      t.refs[1].state == .qualifying && t.refs[1].rejects == 0 && t.refs[1].good == 0 && t.refs[1].counts.rejected == 1
        && t.refs[1].lastPhi == some (1000057700000000000 - 6000000000)) = true := by
  decide +kernel

/-- The ten characters of an announcement of second 1000057601 with no quality figure (11.6, R169). -/
def announced : List Byte :=
  let body := toBytes 6 1000057601 ++ toBytes 2 65535
  body ++ toBytes 2 (frameCheck body).toNat

/-- R27: an announcement pairs with the pending pulse; a bad one drops it and counts a code error. -/
theorem test_announcement :
    after (.announcement 0 2 announced false)
      (live.onRef 2 fun r => { r with pulse := some ⟨1000057601000000041, 5999997482⟩, collecting := true }) (fun t =>
      t.refs[2].lastTheta == some (-41, 1000057601000000041) && t.refs[2].good == 7 && t.refs[2].pulse == none
        && !t.refs[2].collecting) = true ∧
    after (.announcement 0 2 announced true)
      (live.onRef 2 fun r => { r with pulse := some ⟨0, 0⟩, collecting := true }) (fun t =>
      t.refs[2].counts.codeErrors == 1 && t.refs[2].counts.rejected == 1 && t.refs[2].counts.unpairedPulses == 0
        && t.refs[2].pulse == none) = true := by
  decide +kernel

/-- R170: a break within a message is an announcement whose check fails, and a message is then in collection. -/
theorem test_breaks :
    after (.announcementBreak 0 3) (live.onRef 3 fun r => { r with state := .qualifying }) (fun t =>
      t.refs[3].collecting) = true ∧
    after (.announcementCutShort 0 2) (live.onRef 2 fun r => { r with collecting := true }) (fun t =>
      t.refs[2].counts.codeErrors == 1 && t.refs[2].collecting) = true := by
  decide +kernel

/-- R26: the window runs 900 ms from the pulse on the raw count. -/
theorem test_announce_window :
    after (.announceWindowExpiry 900000000 2) (live.onRef 2 fun r => { r with pulse := some ⟨0, 5000000000⟩ }) (fun t =>
      t.refs[2].pulse == none && t.refs[2].counts.unpairedPulses == 1) = true ∧
    after (.announceWindowExpiry 899999999 2) (live.onRef 2 fun r => { r with pulse := some ⟨0, 5000000000⟩ }) (fun t =>
      t.refs[2].pulse == some ⟨0, 5000000000⟩) = true := by
  decide +kernel

/-- R15, R32: silence of the active reference for 2,500 ms is a holdover entry. -/
theorem test_silence :
    after (.silenceExpiry 2500000000 0) live (fun t =>
      t.refs[0].state == .failed && t.refs[0].cause == some .silent && t.ts.state == .holdover
        && t.trace.interval.holdovers == 1 && hasAlert .holdoverEntered t.ops.alerts) = true := by
  decide +kernel

/-- R34, R35, R36: arming, disabling, reading. -/
theorem test_reference_requests :
    after (.armReference 0 (port [3])) live (fun t => t.refs[3].state == .qualifying && answered (fun r => r.code == .done) t)
      = true ∧
    after (.disableReference 0 (port [1])) live (fun t => t.refs[1].state == .disabled && t.refs[1].good == 6) = true ∧
    after (.armReference 0 (port [1])) live (answered fun r => r.code == .wrongState) = true ∧
    after (.readReference 0 (port [4])) live (answered fun r => r.code == .range) = true := by
  decide +kernel

/-- The bytes of a SET_REFERENCE of port `p` with width `w` at LSB line 8 (11.6). -/
def refBytes (p w : Nat) : List Byte :=
  toBytes 1 p ++ toBytes 1 2 ++ [1] ++ toBytes 4 120 ++ toBytes 4 40 ++ toBytes 4 10000 ++ toBytes 1 8 ++ toBytes 1 3
    ++ toBytes 2 2500 ++ toBytes 4 (2 ^ 32 - 1) ++ toBytes 6 0 ++ toBytes 1 8 ++ toBytes 1 w ++ [1] ++ toBytes 2 100

/-- R33: p + w may be 48 and not 49; at RP3 the code setup is not read. -/
theorem test_set_reference :
    after (.setReference 0 (port (refBytes 0 40))) fresh (fun t =>
      t.refs[0].config.width == 40 && t.refs[0].config.edge == .falling && t.refs[0].config.secondOffset == -1
        && t.refs[0].config.format == .gray && t.refs[0].config.windowMs == 900) = true ∧
    after (.setReference 0 (port (refBytes 0 41))) fresh (answered fun r => r.code == .range) = true ∧
    after (.setReference 0 (port (refBytes 3 41))) fresh (fun t =>
      t.refs[3].config.width == 40 && t.refs[3].config.windowMs == 100) = true := by
  decide +kernel

/-- R19, R41: RESYNC in HOLDOVER with RP1 and RP2 READY makes RP1 ACTIVE; with a live call it is refused. -/
theorem test_resync :
    after (.resync 0 (port [])) live (fun t =>
      t.ts.state == .acquiring && t.refs[0].state == .active && t.trace.dg == .untraced) = true ∧
    after (.resync 0 (port [])) (stands 9 (call .call) live) (answered fun r => r.code == .wrongPhase) = true := by
  decide +kernel

/-! ### Traceability (3.2, 3.3, 3.6) -/

/-- "U while locked": 70 ns, and 54 ns for an instant before the mark. -/
theorem test_bound_while_locked :
    boundAt Trace.atReset.settings { live.ts with slew := 12 * unit, lastMark := some (40, 1000057600000000120) }
      1000057600800000500 = 70 ∧
    boundAt Trace.atReset.settings { live.ts with slew := 12 * unit, lastMark := some (40, 1000057600000000120) }
      1000057599980000120 = 54 := by
  decide +kernel

/-- "U after ten minutes of holdover": 21,042 ns. -/
theorem test_bound_after_ten_minutes :
    boundAt Trace.atReset.settings
      { live.ts with state := .holdover, lastMark := some (40, 1000057599999999960) } 1000058200000000000 = 21042 := by
  decide +kernel

/-- R58: a sample at its whole second counts the grade held, and the next falls a second later. -/
theorem test_trace_sample :
    after (.traceSample 999997481) live (fun t =>
      t.trace.interval.seconds.a == 0 && t.trace.nextSample == 1000057601000000000) = true ∧
    after (.traceSample 1000000000) live (fun t =>
      t.trace.interval.seconds.a == 1 && t.trace.interval.worstU == 62 && t.trace.nextSample == 1000057602000000000)
      = true := by
  decide +kernel

/-- R60, R61, R62, R89. -/
theorem test_trace_requests :
    after (.closeInterval 0 (port [])) live (fun t => t.trace.interval.start == 1000057600000000000) = true ∧
    after (.traceReport 0 (port [])) live (answered fun r => r.code == .done) = true ∧
    after (.setTrace 0 (port (toBytes 4 20000 ++ toBytes 4 50 ++ toBytes 4 10 ++ toBytes 4 100 ++ toBytes 4 1000))) live
      (fun t => t.trace.dg == .b && hasAlert .gradeChange t.ops.alerts) = true ∧
    after (.readTime 0 (port [])) live (answered fun r => r.body == .time 1000057600000000000 42 .a) = true := by
  decide +kernel

/-! ### Lanes (chapter 4) -/

theorem test_link_up_starts_the_probe_interval :
    after (.linkUp 5 3) State.reset (fun t =>
      t.lanes[3].up && t.lanes[3].intervalDue == some 1000000005 && hasAlert .laneUp t.ops.alerts) = true := by
  decide +kernel

theorem test_link_down_empties_the_queues :
    after (.linkDown 0 3) (asks 3 0 State.reset) (fun t =>
      !t.lanes[3].up && t.lanes[3].queue == [] && hasAlert .laneDown t.ops.alerts) = true := by
  decide +kernel

/-- R67 to R70, R169: a frame's latch is its start delimiter's, a bad check is counted, and a good frame waits where the reply share is
full. -/
theorem test_frames :
    after (.startDelimiter 4 2) (up 2 State.reset) (fun t => t.lanes[2].rxLatch == some 4) = true ∧
    after (.frameEnd 9 2 (frameBytes 1 77 []) false) ((asks 2 4 State.reset).onLane 2 fun n => { n with tx := backedUp })
      (fun t => t.lanes[2].queue == [{ latch := 4, kind := 1, tag := 77, payload := [] }] && t.lanes[2].rxLatch == none) = true ∧
    after (.frameEnd 9 2 [1, 0, 77, 0, 0, 0] false) (asks 2 4 State.reset)
      (fun t => t.lanes[2].counts.frameErrors == 1 && t.lanes[2].queue == []) = true := by
  decide +kernel

/-- R70, R71: a STAMP whose frame ends at an empty queue with a free reply entry is answered at that event, from its arrival latch. -/
theorem test_request_is_taken_as_its_frame_ends :
    after (.frameEnd 9 5 (frameBytes 1 77 []) false) (asks 5 1000057600000000000 live) (fun t =>
      t.lanes[5].queue == [] && t.lanes[5].lastStamp == some 1000057600000000000
        && replied 5 (fun r => r.tag == 77 && r.code == .done) t) = true := by
  decide +kernel

/-- R71, R78: as a reply leaves, the waiting request is taken; as a probe leaves, it is not. -/
theorem test_waiting_request_is_taken_as_a_reply_leaves :
    let waits := fun tx => (up 5 live).onLane 5 fun n =>
      { n with tx := tx, queue := [{ latch := 1000057600000000000, kind := 1, tag := 77, payload := [] }] }
    after (.frameLeaves 9 5) (waits backedUp) (fun t =>
      t.lanes[5].queue == [] && t.lanes[5].sequence == 1 && t.lanes[5].replies == 8 && replied 5 (fun r => r.tag == 77) t)
      = true ∧
    after (.frameLeaves 9 5) (waits (.probe 0 :: backedUp)) (fun t => t.lanes[5].queue.length == 1 && t.lanes[5].sequence == 0)
      = true := by
  decide +kernel

/-- R68: a frame of 249 payload bytes is counted and dropped with its latch, as a request, as an ECHO and with an unknown kind. -/
theorem test_frames_longer_than_248_bytes :
    let long : List Byte := List.replicate 249 0
    let dropped := fun t : State => t.lanes[5].counts.frameErrors == 1 && t.lanes[5].counts.badEchoes == 0
      && t.lanes[5].rxLatch == none && t.lanes[5].tx == [] && t.lanes[5].queue == []
    after (.stamp 0 (ends 5 long)) (asks 5 0 live) dropped = true ∧
    after (.systemReset 0 (ends 5 long)) (asks 5 0 live) dropped = true ∧
    after (.echo 0 (.lane 5) 7 long) (asks 5 0 live) dropped = true ∧
    after (.unknownKind 0 (ends 5 long) 99) (asks 5 0 live) dropped = true ∧
    after (.unknownKind 0 (ends 5 long) 4) (asks 5 0 live) dropped = true := by
  decide +kernel

/-- R72, R78: a request of no kind is refused BAD_FORM, and its reply leaves as kind 128 (11.2). -/
theorem test_unknown_kind_and_frame_leaves :
    after (.unknownKind 0 (ends 2 []) 99) (asks 2 0 State.reset) (fun t =>
      t.lanes[2].queue == [] && replied 2 (fun r => r.code == .badForm && r.kind == 99 && r.tag == 7) t) = true ∧
    after (.frameLeaves 0 2)
      ((up 2 State.reset).onLane 2 fun n =>
        { n with tx := [.reply { kind := 99, tag := 7, code := .badForm, ind := .clear, body := .empty }] }) (fun t =>
      t.lanes[2].tx == [] && t.lanes[2].linkOut.any fun b => b.take 7 == [128, 0, 7, 3, 99, 3, 0]) = true := by
  decide +kernel

/-- R81: at the port the clear choice clears the counts it has reported. -/
theorem test_lane_status :
    after (.laneStatus 0 (port [2, 1]))
      (fresh.onLane 2 fun n => { n with counts := { n.counts with overruns := 5 } }) (fun t =>
      t.lanes[2].counts.overruns == 0 && answered (fun r => match r.body with
        | .laneStatus x => x.counts.overruns == 5
        | _ => false) t) = true := by
  decide +kernel

/-- The bytes of a SET_LANE of lane `l` with default compensation `c0` (11.3). -/
def laneBytes (l c0 : Nat) : List Byte :=
  toBytes 1 l ++ [7, 1] ++ toBytes 4 c0 ++ toBytes 4 500 ++ toBytes 2 10 ++ toBytes 2 100 ++ toBytes 2 60

/-- R155: c0 may equal Cmax and not exceed it. -/
theorem test_set_lane :
    after (.setLane 0 (port (laneBytes 4 20000))) (up 4 fresh) (fun t =>
      t.lanes[4].settings.c0 == 20000 && t.lanes[4].settings.roles == ⟨true, true, true⟩
        && t.lanes[4].settings.required == .b && t.lanes[4].intervalDue == some 10000000) = true ∧
    after (.setLane 0 (port (laneBytes 4 20001))) (up 4 fresh) (answered fun r => r.code == .range) = true := by
  decide +kernel

/-! ### Calibration (6.5) -/

/-- Before the first sample, after one, and after the fourth. -/
theorem test_calibration_of_a_window :
    derive 20000 6000 500 [] = { standing := .none, c := 6000, u := 20500, overCap := false } ∧
    derive 20000 6000 500 [⟨6810, 0⟩] = { standing := .partly, c := 6000, u := 20500, overCap := false } ∧
    derive 20000 6000 500 [⟨6810, 0⟩, ⟨6772, 0⟩, ⟨6905, 0⟩, ⟨6802, 0⟩] =
      { standing := .calibrated, c := 6772, u := 566, overCap := false } := by
  decide +kernel

/-- Probe 1: an echo 14,820 ns after the departure with a turnaround of 1,200 gives the sample 6,810. -/
theorem test_echo_of_probe_1 :
    after (.echo 0 (.lane 4) 0 (toBytes 2 1200))
      ((up 4 live).onLane 4 fun n =>
        { n with rxLatch := some (1000057600000000000 + 14820)
                 probe := some { tag := 0, departed := some 1000057600000000000 }, echoDue := some 5000100000 }) (fun t =>
      t.lanes[4].window == [⟨6810, 1000057600000014820⟩] && t.lanes[4].derived.standing == .partly
        && t.lanes[4].probe == none && t.lanes[4].echoDue == none) = true := by
  decide +kernel

/-- A lane whose probe of tag 9 is outstanding, its echo timer due 100 µs after the departure. -/
def probing : State :=
  (up 4 live).onLane 4 fun n =>
    { n with tagCounter := 10, probe := some { tag := 9, departed := some 1000057600000000000 }, echoDue := some 5000100000 }

/-- Probe 10: the timeout keeps the tag; its echo is then late, and an echo of tag 3 is bad. -/
theorem test_late_and_bad_echoes :
    after (.echoTimeout 100000 4) probing (fun t => t.lanes[4].probe == none && t.lanes[4].lastExpired == some 9) = true ∧
    after (.echo 0 (.lane 4) 9 (toBytes 2 1200))
      ((up 4 live).onLane 4 fun n => { n with rxLatch := some 0, lastExpired := some 9 }) (fun t =>
      t.lanes[4].counts.lateEchoes == 1 && t.lanes[4].counts.badEchoes == 0) = true ∧
    after (.echo 0 (.lane 4) 3 (toBytes 2 1200))
      ((up 4 live).onLane 4 fun n => { n with rxLatch := some 0, lastExpired := some 9 }) (fun t =>
      t.lanes[4].counts.lateEchoes == 0 && t.lanes[4].counts.badEchoes == 1) = true := by
  decide +kernel

/-- R101 to R104: a probe is placed at the interval's end and by CALIBRATE, and departs with its time. -/
theorem test_probes :
    after (.probeIntervalExpiry 10 4) ((up 4 live).onLane 4 fun n => { n with intervalDue := some 5000000010 }) (fun t =>
      t.lanes[4].tx == [.probe 0] && t.lanes[4].probe == some { tag := 0, departed := none } && t.lanes[4].tagCounter == 1
        && t.lanes[4].intervalDue == some 6000000010) = true ∧
    after (.calibrate 0 (ends 4 [])) (asks 4 0 live) (fun t =>
      t.lanes[4].probe == some { tag := 0, departed := none } && replied 4 (fun r => r.body == .probeTag 0) t) = true ∧
    after (.probeDeparture 7 4)
      ((up 4 live).onLane 4 fun n => { n with tx := [.probe 0], probe := some { tag := 0, departed := none } }) (fun t =>
      t.lanes[4].probe == some { tag := 0, departed := some 1000057600000000007 }
        && t.lanes[4].echoDue == some 5000100007) = true := by
  decide +kernel

/-! ### Dating and rulings (5.6) -/

/-- The two lanes and slot 9 of 5.6; the slew is what makes U 66 at the first arrival. -/
def randomEnd (ns : Nat) (ph : Phase) : State :=
  let s := keyed 300 9 (stands 9 { call ph with holdMax := 4, inCall := 1204, latestIn := some 1000057588540990000 }
    (serving ns))
  ({ s with ts := { s.ts with slew := 14 * unit } }).onLane 5 fun n =>
    { n with
      up := true, settings := { n.settings with required := .a, asymmetry := 40 }, sequence := 77
      lastStamp := some 1000057588541000100
      window := [⟨14600, 1000057528000000000⟩, ⟨16400, 1000057588000000000⟩, ⟨16500, 1000057588000000000⟩,
                 ⟨16450, 1000057588000000000⟩, ⟨16460, 1000057588000000000⟩] }

/-- E1: c rises to 16,400, the stamp is clamped to .541000101, B = 1,057, grade B, HELD and DEGRADED, IN_CALL. -/
theorem test_keyed_stamp_e1 :
    after (.stampKeyed 0 (ends 5 (toBytes 2 300)))
      (randomEnd 1000057588541015600 .window |>.onLane 5 fun n => { n with rxLatch := some 1000057588541015600 }) (fun t =>
      t.lanes[5].derived.c == 16400 && t.lanes[5].derived.u == 90 && t.lanes[5].lastStamp == some 1000057588541000101
        && t.slots[9].any (fun c => c.inCall == 1205 && c.latestIn == some 1000057588541000101 && c.revision == 3)
        && t.trace.interval.stamps.b == 1
        && replied 5 (fun r => r.ind == { late := false, held := true, degraded := true, wrap := false }
          && r.body == .stampKeyed
              { lane := 5, sequence := 78, time := 1000057588541000101, bound := 1057, grade := .b }
              (some { slot := 9, revision := 3, ruling := .inCall })) t) = true := by
  decide +kernel

/-- E3 to E7 by their stamp times: IN_CALL before the end in SETTLING, LATE after it, a straggler in UNCROSS_DUE. -/
theorem test_rulings_after_the_end :
    (call .settling).rule 1000057588541011950 = .inCall ∧ (call .settling).rule 1000057588541021800 = .late ∧
    ((call .uncrossDue).counted 1000057588541017600).stragglers = 1 ∧
    ((call .uncrossDue).counted 1000057588541017600).late = 0 ∧ (call .uncrossDue).rule 1000057588541017600 = .late := by
  decide +kernel

/-- R84 to R88: a first STAMP is its arrival less c; a second of the same arrival is one later. -/
theorem test_stamp :
    after (.stamp 0 (ends 5 [])) (asks 5 1000057600000000000 live) (fun t =>
      t.lanes[5].lastStamp == some 1000057600000000000 && t.lanes[5].sequence == 1) = true ∧
    after (.stamp 0 (ends 5 []))
      ((asks 5 1000057600000000000 live).onLane 5 fun n => { n with lastStamp := some 1000057600000000000 }) (fun t =>
      t.lanes[5].lastStamp == some 1000057600000000001 && replied 5 (fun r => r.ind.held) t) = true := by
  decide +kernel

/-! ### The auction table (7.11) -/

/-- The table before E1: slot 4 in UNCROSS_DUE with keys 300 and 301, slot 20 SCHEDULED with key 500. -/
def morning : State :=
  keyed 500 20 (keyed 301 4 (keyed 300 4
    (stands 20 { call .scheduled with revision := 1, tOpen := 1000061000000000000, tSched := 1000061600000000000 }
      (stands 4 { call .uncrossDue with revision := 6 } (serving 1000050000000000000)))))

/-- The bytes of a SCHEDULE of slot `i` with defaults and keys `ks` (11.5). -/
def scheduleBytes (i : Nat) (ks : List Nat) : List Byte :=
  toBytes 1 i ++ [0x20] ++ timeBytes (some 1000057540000000000) ++ timeBytes (some 1000057570000000000)
    ++ toBytes 4 30000000 ++ toBytes 14 0 ++ [1] ++ toBytes 2 0x24 ++ ks.flatMap (toBytes 2)

/-- E1: key 300 holds slot 4, in UNCROSS_DUE. -/
theorem test_schedule_conflict :
    after (.schedule 0 (port (scheduleBytes 9 [300, 302]))) morning (fun t =>
      t.slots[9] == none && answered (fun r => r.code == .conflict && r.body == .keyConflict 300 4) t) = true := by
  decide +kernel

/-- E2: two keys unmapped. -/
theorem test_retire :
    after (.retire 0 (port (slotForm 4))) morning (fun t =>
      t.slots[4] == none && t.groupMap == [(500, 20)] && answered (fun r => r.body == .unmapped 2) t) = true := by
  decide +kernel

/-- The table after E2. -/
def retired : State :=
  keyed 500 20 (stands 20 { call .scheduled with revision := 1, tOpen := 1000061000000000000, tSched := 1000061600000000000 }
    (serving 1000050000000000000))

/-- E3: the defaults of 7.1, the keys, the entry and the reply. -/
theorem test_schedule :
    after (.schedule 0 (port (scheduleBytes 9 [300, 302]))) retired (fun t =>
      t.slots[9].any (fun c => c.revision == 1 && c.extCap == 3 && c.extMin == 1000 && c.extMax == 300000
        && c.holdStep == 30000 && c.holdMax == 4 && c.required == .b)
        && t.groupMap == [(300, 9), (302, 9), (500, 20)]
        && t.expiry == [(1000057540000000000, 9), (1000061000000000000, 20)]
        && answered (fun r => r.code == .done && r.body == .slotRevision 9 1) t) = true := by
  decide +kernel

/-- The table after E3. -/
def scheduled : State := keyed 302 9 (keyed 300 9 (stands 9 { call .scheduled with revision := 1 } retired))

/-- E4: key 500 moves from slot 20, addressed through key 300. -/
theorem test_map_key :
    after (.mapKey 0 (port (toBytes 2 500 ++ keyForm 300))) scheduled (fun t =>
      t.groupMap == [(300, 9), (302, 9), (500, 9)] && answered (fun r => r.body == .heldSlot (some 20)) t) = true := by
  decide +kernel

/-- E5 to E7: NEXT from 63 wraps to 9, from 9 finds 20, from 20 wraps to 9; PREV from 9 wraps to 20. -/
theorem test_next_and_prev :
    after (.queryAuction 0 (port nextForm)) scheduled (fun t => t.ops.cursor == 9 && answered (fun r => r.ind.wrap) t) = true ∧
    after (.queryAuction 0 (port nextForm)) { scheduled with ops := { scheduled.ops with cursor := 9 } } (fun t =>
      t.ops.cursor == 20 && answered (fun r => !r.ind.wrap) t) = true ∧
    after (.queryAuction 0 (port nextForm)) { scheduled with ops := { scheduled.ops with cursor := 20 } } (fun t =>
      t.ops.cursor == 9 && answered (fun r => r.ind.wrap) t) = true ∧
    after (.queryAuction 0 (port prevForm)) { scheduled with ops := { scheduled.ops with cursor := 9 } } (fun t =>
      t.ops.cursor == 20 && answered (fun r => r.ind.wrap) t) = true := by
  decide +kernel

/-- E8: slot 20's T_open alone moves, at revision 2. -/
theorem test_reschedule :
    after (.reschedule 0 (port (slotForm 20 ++ [1] ++ timeBytes (some 1000061200000000000) ++ timeBytes none ++ toBytes 4 0)))
      scheduled (fun t =>
      t.slots[20].any (fun c => c.revision == 2 && c.tOpen == 1000061200000000000 && c.tSched == 1000061600000000000)
        && expiryOf 20 t.expiry == some 1000061200000000000) = true := by
  decide +kernel

/-- E9: LP7 joins slot 20's notice set, with no notice and no revision; UNSUBSCRIBE takes it out. -/
theorem test_subscriptions :
    after (.subscribe 0 (ends 7 (slotForm 20))) (asks 7 0 scheduled) (fun t =>
      t.slots[20].any (fun c => c.notices == 0xA4 && c.revision == 1) && t.lanes[7].tx.length == 1) = true ∧
    after (.unsubscribe 0 (port (slotForm 20 ++ [5]))) scheduled (fun t => t.slots[20].any fun c => c.notices == 0x04)
      = true := by
  decide +kernel

/-- R125, R128. -/
theorem test_cancel_and_unmap :
    after (.cancel 0 (port (slotForm 9))) scheduled (fun t =>
      t.slots[9].any (fun c => c.phase == .cancelled && c.cancelCause == some .request) && expiryOf 9 t.expiry == none
        && mapLookup 300 t.groupMap == some 9) = true ∧
    after (.unmapKey 0 (port (toBytes 2 300))) scheduled (fun t =>
      t.groupMap == [(302, 9), (500, 20)] && answered (fun r => r.body == .heldSlot (some 9)) t) = true := by
  decide +kernel

/-! ### Closing-call timing (8.3, 8.5, 8.10) -/

/-- "The end draw", and the two extensions inside the window that follow it. -/
theorem test_end_draw_and_extensions :
    ((call .call).windowed 2654435769).tEnd = some 1000057588541019000 ∧
    ((call .window).extendedInWindow 1000057580000000000 5000 429496730).tEnd = some 1000057588541019000 ∧
    ((call .extended).extendedInWindow 1000057587000000000 1000 2147483648).tEnd = some 1000057603000000000 ∧
    (call .window).heldLength 500 = 1000 := by
  decide +kernel

/-- Slot 14 of 8.10, in HOLDOVER at DG B, required grade A: its end, and the ends it is held to. -/
def traced (ph : Phase) (tEnd used : Nat) : State :=
  let s := stands 14 { call ph with required := .a, tEnd := some tEnd, holdsUsed := used } (serving tEnd)
  { s with ts := { s.ts with state := .holdover, lastMark := some (40, tEnd - 600000000000), anchor := none }
           trace := { s.trace with dg := .b } }

/-- E1 and E5: held by 30 s at revision 4; with the holds spent, closed on grade B and flagged. -/
theorem test_trace_hold :
    after (.endExpiry 0 14) (traced .window 1000057588541019000 0) (fun t =>
      t.slots[14].any (fun c => c.phase == .traceHold && c.tEnd == some 1000057618541019000 && c.holdsUsed == 1
        && c.revision == 4) && hasAlert .auctionTraceHold t.ops.alerts) = true ∧
    after (.endExpiry 0 14) (traced .traceHold 1000057648541019000 2) (fun t =>
      t.slots[14].any (fun c => c.phase == .settling && c.closeGrade == some .b && c.untracedFlag == some true)
        && expiryOf 14 t.expiry == some 1000057648541089000 && hasAlert .auctionClosedUntraced t.ops.alerts) = true := by
  decide +kernel

/-- E3: an EXTEND of a held call is refused CALL_HELD. -/
theorem test_extend_of_a_held_call :
    after (.extend 0 (port (slotForm 14 ++ toBytes 4 5000)))
      (stands 14 { call .traceHold with tEnd := some 1000057618541019000 } (serving 1000057605000000000))
      (answered fun r => r.code == .callHeld && r.body == .slotRevision 14 3) = true := by
  decide +kernel

/-- R138: an EXTEND in CALL moves T_sched by the length applied. -/
theorem test_extend_in_call :
    after (.extend 0 (port (slotForm 9 ++ toBytes 4 500))) (stands 9 (call .call) (serving 1000057541000000000)) (fun t =>
      t.slots[9].any (fun c => c.tSched == 1000057571000000000 && c.extUsed == 1 && c.revision == 4)
        && answered (fun r => r.code == .done && r.ind.held) t) = true := by
  decide +kernel

/-- R134, R135, R136: a call opens in service, misses its opening out of it, and its window opens with an end drawn. -/
theorem test_open_and_window_expiries :
    after (.openExpiry 0 9) (stands 9 (call .scheduled) (serving 1000057540000000000)) (fun t =>
      t.slots[9].any (fun c => c.phase == .call && c.revision == 4) && expiryOf 9 t.expiry == some 1000057570000000000)
      = true ∧
    after (.openExpiry 0 9) (stands 9 (call .scheduled) acquiring) (fun t =>
      t.slots[9].any (fun c => c.cancelCause == some .missedOpen) && hasAlert .auctionMissedOpen t.ops.alerts) = true ∧
    after (.windowExpiry 0 9) (stands 9 (call .call) (serving 1000057570000000000)) (fun t =>
      t.slots[9].any (fun c => c.phase == .window) && t.drawCount == 1) = true := by
  decide +kernel

/-- R146: PHASE_NOTICE, then CLOSE_NOTICE, to the UP lanes of the notice set alone. -/
theorem test_settle_expiry :
    after (.settleExpiry 0 9) (up 5 (stands 9 (call .settling) (serving 1000057588541089000))) (fun t =>
      t.slots[9].any (fun c => c.phase == .uncrossDue) && t.expiry == [] && t.lanes[2].tx.length == 0
        && match t.lanes[5].tx with
          | [.phaseNotice n, .closeNotice x] => n.revision == 4 && x.revision == 4 && x.tEnd == some 1000057588541019000
          | _ => false) = true := by
  decide +kernel

/-! ### The operations port, and power and reset (9, 10) -/

/-- A port that holds a reply. -/
def replyReady : State :=
  { live with ops := { live.ops with reply := some { kind := 42, tag := 9, code := .done, ind := .clear, body := .empty } } }

/-- R152: a WRITE is taken, BUSY at a full port, or DISCARDED with a bad frame. -/
theorem test_writes :
    after (.readAlerts 0 (port [])) live (fun t => t.ops.alerts == 0 && t.ops.lastWrite == .taken && t.ops.spi == none
      && answered (fun r => r.body == .alerts (Alert.resetDone.flag)) t) = true ∧
    after (.opsWriteBusy 0 (frameBytes 42 0 [])) replyReady (fun t =>
      t.ops.lastWrite == .busy && t.ops.alerts == live.ops.alerts && t.ops.reply == replyReady.ops.reply) = true ∧
    after (.opsWriteDiscarded 0 [42]) live (fun t => t.ops.lastWrite == .discarded) = true ∧
    after (.readAlerts 0 (port [])) (spi 90 live) (fun t => t == spi 90 live) = true := by
  decide +kernel

/-- R151, R154, R159: the status byte is the first byte's; a READ gives what was clocked, and empties the buffer after the last byte. -/
theorem test_reads :
    after (.opsRead 0 (.begins 7)) replyReady (fun t => t == { replyReady with ops := { replyReady.ops with
      spi := some 7, shiftOut := [1] } }) = true ∧
    after (.opsRead 0 .complete) (spi 90 replyReady) (fun t =>
      t.ops.reply == none && t.ops.shiftOut.take 6 == [128, 0, 9, 3, 42, 0]) = true ∧
    after (.opsRead 0 (.released 3)) (spi 90 replyReady) (fun t =>
      t.ops.reply == replyReady.ops.reply && t.ops.shiftOut == [128, 0, 9]) = true ∧
    after (.opsRead 0 (.released 3)) (spi 90 live) (fun t => t.ops.shiftOut == [0, 0, 0]) = true := by
  decide +kernel

/-- R153: an ECHO at the port is taken, and refused NO_RIGHT. -/
theorem test_echo_at_the_port :
    after (.echo 0 .ops 7 [0, 0]) live (fun t =>
      t.ops.lastWrite == .taken && answered (fun r => r.code == .noRight && r.kind == 4 && r.tag == 7) t) = true := by
  decide +kernel

/-- R156: Cmax does not move while a call is live. -/
theorem test_set_device_limits :
    after (.setDeviceLimits 0 (port (toBytes 4 1000000 ++ toBytes 4 50000 ++ toBytes 4 50000 ++ toBytes 4 2000 ++ [1]))) live
      (fun t => t.ops.limits.cmax == 1000000 && t.ops.limits.revertive) = true ∧
    after (.setDeviceLimits 0 (port (toBytes 4 1000000 ++ toBytes 4 50000 ++ toBytes 4 50000 ++ toBytes 4 2000 ++ [1])))
      (stands 9 (call .settling) live) (answered fun r => r.code == .wrongPhase) = true := by
  decide +kernel

/-- R159, R161: a mask with RESET_DONE's bit asserts the line. -/
theorem test_alert_mask :
    after (.setAlertMask 0 (port [0x10, 0])) live (fun t => t.ops.mask == 0x1000 && t.alertLine) = true ∧
    after (.setAlertMask 0 (port [0x20, 0])) live (answered fun r => r.code == .range) = true := by
  decide +kernel

/-- R164, R165. -/
theorem test_retained_requests :
    after (.retainedEnable 0 (port [1])) live (fun t => t.retained.writeEnable) = true ∧
    after (.retainedWrite 0 (port (0 :: toBytes 4 2515938))) live (answered fun r => r.code == .wrongState) = true ∧
    after (.retainedWrite 0 (port (0 :: toBytes 4 2515938))) { live with retained := { live.retained with writeEnable := true } }
      (fun t => t.retained.savedRate == 2515938 && t.retained.valid && t.ts.rate == 2518188) = true ∧
    after (.retainedRead 0 (port [])) live (answered fun r => r.body == .retained live.retained) = true := by
  decide +kernel

/-- R162, R163, R166: the run after a pin reset starts from the saved rate; after both supplies were lost it is the first. -/
theorem test_runs :
    after .runStart { held with retained := { held.retained with valid := true, savedRate := 2515938 } } (fun t =>
      t.ts.rate == 2515938 && t.retained.cause == some .resetPin && t.ts.ns == 0 && !t.resetPin && t.power == .running) = true ∧
    after .runStart { off with power := .held .powerOn, retained := Retained.lost } (fun t =>
      t.retained.count == 1 && t.retained.cause == some .powerOn && t.ts.rate == 0) = true ∧
    after (.systemReset 0 (port [])) live (fun t =>
      t.retained.cause == some .resetRequest && t.ops.reply == none && t.ts.state == .unset) = true := by
  decide +kernel

theorem test_power_and_pin :
    after .powerLoss live (fun t => t.power == .off && t.retained == live.retained) = true ∧
    after .powerOn off (fun t => t.power == .held .powerOn && t.backup) = true ∧
    after .resetPinAsserted live (fun t => t.power == .held .resetPin && t.resetPin) = true := by
  decide +kernel

/-- R163: both supplies lost, in either order, and the contents with them. -/
theorem test_supplies_lost_in_either_order :
    after .backupSupplyLoss off (fun t => t.retained == Retained.lost) = true ∧
    after .backupSupplyLoss live (fun t => t == { live with backup := false }) = true ∧
    after .powerLoss { live with backup := false } (fun t => t.retained == Retained.lost) = true := by
  decide +kernel

/-! ### Witnesses: states and operands that meet the hypotheses of each statement, clause by clause -/

theorem witness_StepRunsTheFrontCommand :
    ({ live with pending := [.slewEnd 3, .powerLoss] } : State).pending = .slewEnd 3 :: [.powerLoss] := rfl

theorem witness_EventsNeedARunningPart :
    live.pending = [] ∧ live.power = .running ∧ off.pending = [] ∧ off.power = .off ∧ held.power = .held .resetPin ∧
    Instr.isPower (.slewEnd 3) = false := by decide

theorem witness_ExchangeTimeAdvancesWithTheRawCount :
    live.ts.inRange ∧ 0 < maxNs - live.ts.raw ∧ live.ts.raw + (maxNs - live.ts.raw) ≤ maxNs ∧
    live.ts.total < maxNs * unit := by
  unfold Timescale.inRange; decide +kernel

/-- The bound is met with equality: 300 ns at 50,000,000 ppt over 6 ms. -/
theorem witness_SlewEndHasMovedTimeByS :
    let s : State := { live with ts := { live.ts with slew := -300 * (unit : Int) } }
    s.power = .running ∧ s.ts.inRange ∧ s.ts.raw + 6000000 ≤ maxNs ∧ s.ts.slew.natAbs = s.ts.settings.smax * 6000000 ∧
    s.ts.total + 6000000 * (unit + s.ts.rate) + s.ts.slew ≤ maxNs * unit := by
  unfold Timescale.inRange; decide +kernel

/-- A mark one ns beyond the step threshold, with a probe in flight; and one at the lock limit, the fourth in a row. -/
theorem witness_AcquiringMarksStepOrLock :
    let s := { acquiring with lanes := probing.lanes }
    s.ts.state = .acquiring ∧ s.ts.settings.stepThreshold < (-1000001 : Int).natAbs ∧
    s.lanes[4].probe = some { tag := 9, departed := some 1000057600000000000 } ∧ s.lanes[3].probe = none ∧
    (1000 : Int).natAbs ≤ s.ts.settings.stepThreshold ∧ (1000 : Int).natAbs ≤ s.ts.settings.lockLimit ∧
    s.ts.settings.lockCount ≤ min 32 (s.ts.lockCount + 1) ∧ s.refs[0].state = .active := by decide +kernel

/-- Marks at the step threshold that leave ACQUIRING: one ns beyond the lock limit, and one at it two short of lock; Δ of exactly 0.1 s, one
ns less, and no anchor. -/
theorem witness_AcquiringMarksStepOrLock_slewing :
    let s := { acquiring with ts := { acquiring.ts with lockCount := 2 } }
    let free : State := { s with ts := { s.ts with anchor := none } }
    s.ts.state = .acquiring ∧ (-1000000 : Int).natAbs = s.ts.settings.stepThreshold ∧
    s.ts.settings.lockLimit < (1001 : Int).natAbs ∧ 0 < s.ts.settings.lockCount ∧ (1000 : Int).natAbs = s.ts.settings.lockLimit ∧
    min 32 (s.ts.lockCount + 1) < s.ts.settings.lockCount ∧ s.ts.anchor = some (0, 5000000000) ∧
    100000000 ≤ 5100000000 - 5000000000 ∧ ¬ 100000000 ≤ 5099999999 - 5000000000 ∧ free.ts.anchor = none := by
  decide +kernel

/-- Steps with the next sample second 1 s ahead: back; forward to one ns short of it; and to it. -/
theorem witness_AcquiringMarksStepOrLock_samples :
    let s := { acquiring with trace := live.trace }
    s.trace.nextSample = 1000057601000000000 ∧ s.ts.ns = 1000057600000000000 ∧ (-1000001 : Int) < 0 ∧
    s.ts.settings.stepThreshold < (-1000001 : Int).natAbs ∧ s.ts.settings.stepThreshold < (999999999 : Int).natAbs ∧
    movedNs 999999999 s.ts.ns < s.trace.nextSample ∧ s.trace.nextSample = movedNs 1000000000 s.ts.ns := by decide +kernel

/-- R57: a forward step over several seconds gives one sample, in UNTRACED; a backward step sets the next sample second anew. -/
theorem test_samples_at_steps :
    (let m : Mark := { tMark := 1000057600000000000, rawMark := 5000000000, tRef := 0, uRef := 40 }
     let t := acquiring.applyMark 0 m 7500000000
     let b := acquiring.applyMark 0 m (-7500000000)
     t.trace.nextSample == 1000057608000000000 && t.trace.interval.seconds == acquiring.trace.interval.seconds.bump .untraced
       && t.trace.interval.worstU == 4294967295 && b.trace.nextSample == 1000057593000000000
       && b.trace.interval == acquiring.trace.interval) = true := by decide +kernel

/-- R12: beyond the lock limit the count is 0 and the state stays; R9: with Δ of 1 s and G = 4, θ of 2,000 moves r by 125,000. -/
theorem test_acquiring_mark_beyond_the_lock_limit :
    (let t := acquiring.applyMark 0 { tMark := 1000057600000000000, rawMark := 6000000000, tRef := 0, uRef := 40 } 2000
     t.ts.state == .acquiring && t.ts.lockCount == 0 && t.ts.slew == 2000 * unit && t.ts.rate == 2518188 + 125000
       && t.ts.anchor == some (0, 6000000000)) = true := by decide +kernel

/-- The bytes of a SET_TIMESCALE with lock count `n` and rate limit `limit` (11.3). -/
def timescaleBytes (n limit : Nat) : List Byte :=
  toBytes 1 n ++ toBytes 4 100 ++ toBytes 4 10000 ++ toBytes 4 limit ++ toBytes 4 1000000 ++ toBytes 1 10

theorem witness_SetTimescaleWritesAllOrNothing :
    live.power = .running ∧
    meets .setTimescale (port (timescaleBytes 0 1000000)) live (fun r => !(decodeTimescale r.payload).ok) = true ∧
    meets .setTimescale (port (timescaleBytes 32 2518188)) live (fun r =>
      (decodeTimescale r.payload).ok && live.ts.rate.natAbs == (decodeTimescale r.payload).rateLimit) = true ∧
    meets .setTimescale (port (timescaleBytes 1 2518187)) live (fun r =>
      (decodeTimescale r.payload).ok && decide ((decodeTimescale r.payload).rateLimit < live.ts.rate.natAbs)) = true := by
  decide +kernel

/-- A command that stays in service, and a RESYNC, which leaves it. -/
theorem witness_InServiceTimeIsNeverStepped :
    live.power = .running ∧ live.inService = true ∧ live.ts.inRange ∧ Instr.restarts (.silenceExpiry 2500000000 0) = false ∧
    after (.silenceExpiry 2500000000 0) live (fun t => t.inService) = true ∧ Instr.restarts (.resync 0 (port [])) = false ∧
    after (.resync 0 (port [])) live (fun t => !t.inService) = true := by
  unfold Timescale.inRange; decide +kernel

theorem witness_RateStaysWithinItsLimit :
    live.ts.inRange ∧ stepped { live with pending := [.slewEnd 7] } (fun _ => true) = true := by
  unfold Timescale.inRange; decide +kernel

theorem witness_PulseEdgesAreIgnoredOffDutyAndPendAtMessagePorts :
    live.power = .running ∧ live.refs[3].state = .disabled ∧ Edge.falling ≠ live.refs[0].config.edge ∧
    live.refs[2].state = .ready := by decide +kernel

/-- RP1 QUALIFYING, in ACQUIRING, with `good` good marks. -/
def qualifying (good : Nat) : State := acquiring.onRef 1 fun r => { r with state := .qualifying, good }

/-- The mark of the next second departs from its prediction by 0; the seventh leaves the state, the eighth makes it READY. -/
theorem witness_QualifyingMarkServesItsRecord :
    let s := qualifying 7
    let u := s.elapse 999997482
    let sec := fullCount s.refs[1].config s.ts.state u.ts.ns (codeValue s.refs[1].config (BitVec.ofNat 48 1000057601))
    s.power = .running ∧ s.refs[1].state = .qualifying ∧ s.ts.state = .acquiring ∧ sec = 1000057601 ∧
    s.refs[1].lastPhi = some (1000057595000000000 : Int) ∧ s.refs[1].lastRaw = some 5000000000 ∧
    ((((markOf sec u.ts.ns u.ts.raw 100).tRef : Int) - u.ts.raw) -
      (1000057595000000000 + (((u.ts.raw : Int) - 5000000000) * s.ts.rate).tdiv (10 ^ 12))).natAbs ≤ 10000 ∧
    min 64 (s.refs[1].good + 1) = s.refs[1].config.qualify ∧
    min 64 ((qualifying 6).refs[1].good + 1) ≠ (qualifying 6).refs[1].config.qualify := by decide +kernel

/-- The largest exchange second, of a reference with no history. -/
theorem witness_QualifyingMarkServesItsRecord_last_second :
    let s := (qualifying 6).onRef 1 fun r => { r with lastPhi := none }
    fullCount s.refs[1].config s.ts.state s.ts.ns (codeValue s.refs[1].config (BitVec.ofNat 48 9223372035)) = 9223372035 ∧
    s.refs[1].lastPhi = none ∧ s.refs[1].state = .qualifying := by decide +kernel

theorem witness_LockedMarkSlewsAndSavesTheRate :
    let u := live.elapse 999997482
    let sec := fullCount live.refs[0].config .locked u.ts.ns (codeValue live.refs[0].config (BitVec.ofNat 48 1000057601))
    live.power = .running ∧ live.refs[0].state = .active ∧ live.ts.state = .locked ∧ live.ts.anchor = some (0, 5000000000) ∧
    sec = 1000057601 ∧ 100000000 ≤ u.ts.raw - 5000000000 ∧ live.refs[0].lastPhi = some (1000057595000000000 : Int) ∧
    live.refs[0].lastRaw = some 5000000000 ∧
    ((((markOf sec u.ts.ns u.ts.raw 100).tRef : Int) - u.ts.raw) -
      (1000057595000000000 + (((u.ts.raw : Int) - 5000000000) * live.ts.rate).tdiv (10 ^ 12))).natAbs ≤ 10000 := by
  decide +kernel

/-- Δ of exactly 0.1 s, after a change of anchor, at second 0. -/
theorem witness_LockedMarkSlewsAndSavesTheRate_shortest_interval :
    let s := live.onRef 0 fun r => { r with lastPhi := none }
    (s.elapse 100000000).ts.raw - 5000000000 = 100000000 ∧ s.refs[0].lastPhi = none ∧ s.refs[0].state = .active ∧
    fullCount s.refs[0].config .locked (s.elapse 100000000).ts.ns (codeValue s.refs[0].config 0) = 0 := by decide +kernel

/-- No frequency update due: the anchor absent, of another port, or one ns short of 0.1 s old. -/
theorem witness_LockedMarkSlewsAndSavesTheRate_no_update :
    let s := fun anchor => { live with ts := { live.ts with anchor } }
    (s none).ts.state = .locked ∧ (s none).ts.anchor = none ∧ (s (some (1, 0))).ts.anchor = some (1, 0) ∧ (1 : Fin 4) ≠ 0 ∧
    (s none).refs[0].state = .active ∧ ¬ 100000000 ≤ (live.elapse 99999999).ts.raw - 5000000000 ∧
    live.ts.anchor = some (0, 5000000000) := by decide +kernel

/-- A mark of RP1 passed on from HOLDOVER, where it wins; and one of RP2, which RP1 keeps from it. -/
theorem witness_LockedMarkSlewsAndSavesTheRate_first_mark :
    let s := { live.onRef 0 (RefRecord.fail .silent) with ts := { live.ts with state := .holdover, anchor := none } }
    let eligible := fun q : Fin 4 => s.refs[q].state == .ready && !s.refs[q].disputed && s.refs[q].fresh s.ts.raw
      && s.refs[q].lastTheta.any fun x => decide (x.1.natAbs ≤ s.ops.limits.acceptLimit)
    s.refs[1].state = .ready ∧ (∀ q : Fin 4, s.refs[q].state ≠ .active) ∧ s.ts.state = .holdover ∧ eligible 1 = true ∧
    eligible 2 = true ∧ eligible 3 = false ∧ eligible 0 = false ∧ s.refs[1].config.priority = s.refs[2].config.priority ∧
    s.refs[2].state = .ready ∧ ({ s with ts := { s.ts with state := .unset } } : State).refs[1].state = .ready := by
  decide +kernel

/-- A code error, an exchange second below 0, and a mark that departs from its prediction by one ns more than M; one rejection short of
the K-th and at it. -/
theorem witness_CodeErrorIsCountedAndRejected :
    let s := fun p n => live.onRef p fun r => { r with rejects := n }
    let early := live.onRef 1 fun r => { r with config := { r.config with secondOffset := -1000000000, width := 48 } }
    let late := (live.onRef 1 fun r => { r with lastPhi := some (1000057595000000000 - 10001 : Int) }).elapse 999997482
    live.power = .running ∧ (s 0 1).refs[0].state = .active ∧ (s 0 1).refs[0].rejects + 1 < (s 0 1).refs[0].config.rejectLimit ∧
    (s 0 2).refs[0].config.rejectLimit ≤ (s 0 2).refs[0].rejects + 1 ∧ live.ts.state = .locked ∧
    (s 1 1).refs[1].state = .ready ∧ (s 1 1).refs[1].rejects + 1 < (s 1 1).refs[1].config.rejectLimit ∧
    (s 1 2).refs[1].config.rejectLimit ≤ (s 1 2).refs[1].rejects + 1 ∧
    fullCount early.refs[1].config .locked early.ts.ns (codeValue early.refs[1].config 999999999)
      + early.refs[1].config.secondOffset = -1 ∧
    (((1000057601000000000 : Int) - late.ts.raw) - ((1000057595000000000 - 10001) +
      (((late.ts.raw : Int) - 5000000000) * late.ts.rate).tdiv (10 ^ 12))).natAbs = 10001 ∧
    late.refs[1].config.maxChange = 10000 := by decide +kernel

/-- RP2 QUALIFYING with a message in collection. -/
def collecting : State :=
  live.onRef 2 fun r => { r with state := .qualifying, collecting := true, lastPhi := none, rejects := 1, good := 6 }

/-- `collecting` with a pulse pending, latched at raw count 5.999997482 s. -/
def paired : State := collecting.onRef 2 fun r => { r with pulse := some ⟨1000057601000000041, 5999997482⟩ }

theorem witness_AnnouncementIsPairedOrCounted :
    live.power = .running ∧ announced.length = 10 ∧ collecting.refs[2].collecting = true ∧
    collecting.refs[2].state = .qualifying ∧ collecting.refs[2].rejects + 1 < collecting.refs[2].config.rejectLimit ∧
    be (announced.drop 8) = (frameCheck (announced.take 8)).toNat ∧ collecting.refs[2].pulse = none ∧
    paired.refs[2].pulse = some ⟨1000057601000000041, 5999997482⟩ ∧
    min 64 (paired.refs[2].good + 1) ≠ paired.refs[2].config.qualify ∧ paired.refs[2].lastPhi = none ∧
    field 0 6 announced + paired.refs[2].config.secondOffset = 1000057601 := by decide +kernel

/-- A READY and an ACTIVE reference with a history: a mark that departs by M and by one ns more; an announced second of −1; and the K-th
rejection. -/
theorem witness_AnnouncementIsPairedOrCounted_passed_on :
    let s := fun (st : RefState) (n : Nat) (off : Int) => paired.onRef 2 fun r => { r with
      state := st, lastPhi := some (1000057595000002518 - off), rejects := n }
    let predicted : Int := (((5999997482 : Int) - 5000000000) * live.ts.rate).tdiv (10 ^ 12)
    let early := (s .active 2 0).onRef 2 fun r => { r with config := { r.config with secondOffset := -1000057602 } }
    (s .ready 1 0).refs[2].state = .ready ∧ (s .active 2 0).refs[2].state = .active ∧ live.ts.state = .locked ∧
    (s .ready 1 0).refs[2].lastRaw = some 5000000000 ∧ (s .ready 1 0).refs[2].config.maxChange = 10000 ∧
    ((1000057601000000000 - 5999997482 : Int) - ((1000057595000002518 - predicted - 10000) + predicted)).natAbs = 10000 ∧
    ((1000057601000000000 - 5999997482 : Int) - ((1000057595000002518 - predicted - 10001) + predicted)).natAbs = 10001 ∧
    (s .ready 1 (predicted + 10001)).refs[2].lastPhi = some (1000057595000002518 - (predicted + 10001)) ∧
    (field 0 6 announced : Int) + early.refs[2].config.secondOffset = -1 ∧
    (s .ready 1 0).refs[2].rejects + 1 < (s .ready 1 0).refs[2].config.rejectLimit ∧
    (s .ready 2 0).refs[2].config.rejectLimit ≤ (s .ready 2 0).refs[2].rejects + 1 ∧
    (s .active 2 0).ts.anchor = some (0, 5000000000) ∧ (2 : Fin 4) ≠ 0 := by decide +kernel

/-- R27, R30: the third rejection in a row of the ACTIVE reference at RP2, by a bad check, is its loss. -/
theorem test_announcement_fails_the_active_reference :
    after (.announcement 0 2 announced true)
      (paired.onRef 2 fun r => { r with state := .active, rejects := 2 }) (fun t =>
      t.refs[2].state == .failed && t.refs[2].cause == some .codeError && t.ts.state == .holdover) = true := by decide +kernel

theorem witness_BreaksAndAnnounceWindows :
    let s := live.onRef 2 fun r => { r with pulse := some ⟨0, 5000000000⟩ }
    live.power = .running ∧ live.refs[2].state = .ready ∧ live.refs[2].collecting = false ∧
    collecting.refs[2].collecting = true ∧ collecting.refs[2].rejects + 1 < collecting.refs[2].config.rejectLimit ∧
    (let k := fun st => collecting.onRef 2 fun r => { r with state := st, rejects := 2 }
     (k .ready).refs[2].state = .ready ∧ (k .active).refs[2].state = .active ∧
     (k .active).refs[2].config.rejectLimit = (k .active).refs[2].rejects + 1) ∧
    s.refs[2].pulse = some ⟨0, 5000000000⟩ ∧
    s.refs[2].config.windowMs * 1000000 = (s.elapse 900000000).ts.raw - 5000000000 := by decide +kernel

/-- The mark timeout exactly. -/
theorem witness_SilenceFailsTheReference :
    live.power = .running ∧ live.refs[1].silence = some 5000000000 ∧ live.refs[1].state = .ready ∧
    live.refs[0].silence = some 5000000000 ∧ live.refs[0].state = .active ∧ live.ts.state = .locked ∧
    live.refs[1].config.timeoutMs * 1000000 = (live.elapse 2500000000).ts.raw - 5000000000 := by decide +kernel

/-- RP1 and RP2 of one priority: RP1 is the best; and with both gone, none. -/
theorem witness_LossInAcquiringReplacesOrUnsets :
    let s := acquiring.onRef 0 (RefRecord.fail .silent)
    let s' := (s.onRef 1 (RefRecord.fail .silent)).onRef 2 (RefRecord.fail .silent)
    s.ts.state = .acquiring ∧ s.refs[1].state = .ready ∧ s.refs[1].fresh s.ts.raw = true ∧
    (∀ q : Fin 4, s.refs[q].state = .ready ∧ s.refs[q].fresh s.ts.raw = true → q ≠ 1 →
      s.refs[1].config.priority < s.refs[q].config.priority ∨
        s.refs[1].config.priority = s.refs[q].config.priority ∧ 1 < q) ∧
    s'.ts.state = .acquiring ∧ ∀ p : Fin 4, ¬ (s'.refs[p].state = .ready ∧ s'.refs[p].fresh s'.ts.raw = true) := by
  decide +kernel

/-- The two disputers differ by the cross limit exactly. -/
theorem witness_AgreeingDisputersOutvoteTheActive :
    let s := drifted.onRef 2 fun r => { r with lastTheta := some (6900, 0) }
    let v := s.vote 2 6900
    s.ts.state = .locked ∧ s.refs[2].state = .ready ∧ s.refs[0].state = .active ∧
    (∀ q : Fin 4, s.refs[q].state = .active → q = 0) ∧ v.refs[1].state = .ready ∧ v.refs[1].disputed = true ∧
    v.refs[2].state = .ready ∧ v.refs[2].disputed = true ∧ v.refs[0].state = .active ∧ v.refs[3].state = .disabled ∧
    v.refs[1].lastTheta = some ((4900 : Int), 0) ∧ v.refs[2].lastTheta = some ((6900 : Int), 0) ∧
    ((4900 : Int) - 6900).natAbs = s.ops.limits.crossLimit := by decide +kernel

/-- RP1 better than the active RP0, with the revertive flag set, its θ at the cross limit from S; and a vote out of service. -/
theorem witness_AgreeingDisputersOutvoteTheActive_revertive :
    let s := { live with ops := { live.ops with limits := { live.ops.limits with revertive := true } } }.onRef 0 fun r =>
      { r with config := { r.config with priority := 5 } }
    let t := s.onRef 1 fun r => { r with lastTheta := some (2000, 0), config := { r.config with priority := 4 } }
    t.refs[1].state = .ready ∧ t.refs[0].state = .active ∧ (∀ q : Fin 4, t.refs[q].state = .active → q = 0) ∧
    t.ops.limits.crossLimit = ((2000 : Int) - t.ts.slew.tdiv 1000000000000).natAbs ∧ t.ts.state = .locked ∧
    t.ops.limits.revertive = true ∧ (2000 : Int).natAbs ≤ t.ops.limits.acceptLimit ∧
    t.refs[1].config.priority < t.refs[0].config.priority ∧ (∀ q : Fin 4, t.refs[q].disputed = false) ∧
    acquiring.inService = false ∧ acquiring.refs[1].state = .ready ∧ acquiring.refs[0].state = .active := by decide +kernel

theorem witness_ArmAndDisableReference :
    live.power = .running ∧ meets .armReference (port [3]) live (fun r => field 0 1 r.payload == 3) = true ∧
    live.refs[3].state = .disabled ∧ meets .armReference (port [0]) live (fun r => field 0 1 r.payload == 0) = true ∧
    live.refs[0].state = .active ∧ meets .disableReference (port [0]) live (fun r => field 0 1 r.payload == 0) = true ∧
    live.ts.state = .locked ∧ meets .disableReference (port [2]) live (fun r => field 0 1 r.payload == 2) = true ∧
    live.refs[2].state = .ready ∧ meets .disableReference (port [3]) live (fun r => field 0 1 r.payload == 3) = true ∧
    acquiring.ts.state = .acquiring ∧ acquiring.refs[0].state = .active ∧
    meets .disableReference (port [0]) acquiring (fun r => field 0 1 r.payload == 0) = true := by
  decide +kernel

theorem witness_SetAndReadReference :
    live.power = .running ∧
    meets .setReference (port (refBytes 0 40)) live (fun r => (decodeRefConfig 0 live.refs[0].config r.payload).isSome) = true ∧
    live.refs[0].state ≠ .disabled ∧ State.reset.refs[0].state = .disabled ∧
    meets .setReference (port (refBytes 0 41)) fresh (fun r =>
      (decodeRefConfig 0 State.reset.refs[0].config r.payload).any fun c => !c.ok) = true ∧
    meets .setReference (port (refBytes 0 40)) fresh (fun r =>
      (decodeRefConfig 0 State.reset.refs[0].config r.payload).any fun c => c.ok) = true ∧
    meets .readReference (port [3]) live (fun r => field 0 1 r.payload == 3) = true := by decide +kernel

/-- The ACTIVE RP0 is the best; and with RP0 of a lower priority, RP1. -/
theorem witness_ResyncLeavesServiceForAReference :
    let s := live.onRef 0 fun r => { r with config := { r.config with priority := 7 } }
    live.power = .running ∧ meets .resync (port []) live (fun _ => true) = true ∧ live.inService = true ∧
    live.anyLive = false ∧ live.refs[0].state = .active ∧ live.refs[1].state = .ready ∧
    (∀ p q : Fin 4, live.refs[p].state = .active → live.refs[q].state = .active → p = q) ∧
    (∀ q : Fin 4, live.refs[q].state = .ready ∨ live.refs[q].state = .active → q ≠ 0 →
      live.refs[0].config.priority < live.refs[q].config.priority ∨
        live.refs[0].config.priority = live.refs[q].config.priority ∧ 0 < q) ∧
    meets .resync (port []) s (fun _ => true) = true ∧
    (∀ q : Fin 4, s.refs[q].state = .ready ∨ s.refs[q].state = .active → q ≠ 1 →
      s.refs[1].config.priority < s.refs[q].config.priority ∨
        s.refs[1].config.priority = s.refs[q].config.priority ∧ 1 < q) ∧
    meets .resync (port []) acquiring (fun _ => true) = true ∧
    acquiring.inService = false ∧ (stands 9 (call .call) live).anyLive = true ∧
    meets .resync (port []) (stands 9 (call .call) live) (fun _ => true) = true := by decide +kernel

/-- In HOLDOVER with no candidate. -/
theorem witness_ResyncLeavesServiceForAReference_unset :
    let s := { traced .window 1000057588541019000 0 with
      slots := .replicate 64 none, refs := .replicate 4 RefRecord.atReset }
    meets .resync (port []) s (fun _ => true) = true ∧ s.inService = true ∧ s.anyLive = false ∧
    ∀ p : Fin 4, ¬ (s.refs[p].state = .ready ∨ s.refs[p].state = .active) := by decide +kernel

theorem witness_OneActiveReferenceExactlyWhenFollowing :
    live.thirdLaw ∧ stepped { live with pending := [.silenceExpiry 2500000000 0] } (fun _ => true) = true := by
  unfold State.thirdLaw; decide +kernel

theorem witness_CodesConvertAndExtendToTheNearestSecond : 65535 < 2 ^ 16 ∧ 0 < 2 ^ 1 ∧ (1000057600 : Int) % 2 ^ 16 = 43776 := by
  decide

theorem witness_BoundIsSaturatedOutOfService :
    State.reset.ts.state = .unset ∧ acquiring.ts.state = .acquiring ∧ acquiring.trace.interval.worstU ≤ 4294967295 ∧
    acquiring.trace.settings.ok = true := by decide +kernel

theorem witness_BoundInServiceIsTheSumOfItsTerms :
    live.inService = true ∧ live.ts.lastMark = some (40, 1000057600000000000) := by decide +kernel

theorem witness_DeviceGradeFallsAtOnceAndRisesWithHysteresis :
    Trace.atReset.settings.threshold .a = some 1000 ∧ 1000 < 1001 ∧
    (∀ g, Trace.atReset.settings.threshold .untraced = some g → 875 ≤ g) ∧
    evalGrade Trace.atReset.settings true .untraced 875 = .a ∧ evalGrade Trace.atReset.settings true .untraced 876 = .b := by
  refine ⟨rfl, by decide, fun g h => ?_, by decide, by decide⟩
  exact absurd h (by simp [TraceSettings.threshold])

/-- The next sample second exactly, and far past it. -/
theorem witness_TraceSampleUpdatesTheInterval :
    live.power = .running ∧ live.trace.nextSample ≤ (live.elapse 999997482).ts.ns ∧
    live.trace.nextSample ≤ (live.elapse 2 ).ts.ns + 999999998 := by decide +kernel

/-- The bytes of a SET_TRACE with thresholds `a`, 100,000 and 1,000,000 (11.3). -/
def traceBytes (a : Nat) : List Byte := toBytes 4 20000 ++ toBytes 4 50 ++ toBytes 4 a ++ toBytes 4 100000 ++ toBytes 4 1000000

theorem witness_TraceRequestsAndReadTime :
    live.power = .running ∧
    meets .setTrace (port (traceBytes 99999)) live (fun r => (decodeTraceSettings r.payload).ok) = true ∧
    meets .setTrace (port (traceBytes 100000)) live (fun r => !(decodeTraceSettings r.payload).ok) = true ∧
    meets .traceReport (ends 2 []) (asks 2 5 live) (fun r => r.instant == 5) = true ∧
    meets .closeInterval (port []) live (fun r => r.instant == 1000057600000000000) = true ∧
    meets .readTime (ends 2 []) (asks 2 5 live) (fun _ => true) = true ∧
    meets .readTime (port []) live (fun _ => true) = true := by decide +kernel

theorem witness_OutOfServiceNothingIsLiveOrTraced :
    let s := stands 9 (call .window) live
    s.fourthLaw ∧ s.gradeLaw ∧ s.anyLive = true ∧ stepped { s with pending := [.slewEnd 1] } (fun _ => true) = true := by
  unfold State.fourthLaw State.gradeLaw; decide +kernel

/-- A lane that is CALIBRATED, and the same lane DOWN. -/
theorem witness_LinkUpAndLinkDown :
    let s := (up 3 live).onLane 3 fun n => { n with derived := { n.derived with standing := .calibrated } }
    live.power = .running ∧ s.power = .running ∧ live.lanes[3].up = false ∧ s.lanes[3].up = true ∧
    s.lanes[3].derived.standing = .calibrated := by decide +kernel

theorem witness_FramesAreLatchedCheckedQueuedAndSent :
    let s := (asks 2 4 live).onLane 2 fun n => { n with tx := [.probe 0], probe := some ⟨0, some 4⟩ }
    let q : Request := { latch := 0, kind := 1, tag := 7, payload := [] }
    let waits := fun k => (asks 2 4 live).onLane 2 fun n => { n with tx := backedUp, queue := List.replicate k q }
    s.power = .running ∧ s.lanes[2].up = true ∧ s.lanes[2].rxLatch = some 4 ∧ parseFrame [1, 0, 7, 0, 0, 0] = none ∧
    parseFrame (frameBytes 1 7 []) = some { kind := 1, tag := 7, payload := [] } ∧
    Instr.request (.stamp 9 (ends 2 [])) = some (ends 2 [], .stamp) ∧ (Instr.stamp 9 (ends 2 [])).dt = 9 ∧
    (waits 7).lanes[2].queue.length = 7 ∧ (waits 7).lanes[2].queue ≠ [] ∧ (waits 0).lanes[2].queue.length < 8 ∧
    (waits 0).lanes[2].replies = 8 ∧ (waits 8).lanes[2].rxLatch = some 4 ∧ (waits 8).lanes[2].queue.length = 8 ∧
    parseFrame (frameBytes 4 7 [1, 2]) = some { kind := 4, tag := 7, payload := [1, 2] } ∧
    parseFrame (frameBytes 128 7 []) = some { kind := 128, tag := 7, payload := [] } ∧ (∀ k ∈ Kind.all, (128 : Byte) ≠ k.byte) ∧
    248 < (List.replicate 249 (0 : Byte)).length ∧ Instr.request (.stamp 9 (ends 2 (List.replicate 249 0))) =
      some (ends 2 (List.replicate 249 0), .stamp) ∧
    s.lanes[2].tx = [.probe 0] ∧ s.lanes[2].probe = some { tag := 0, departed := some 4 } := by decide +kernel

/-- The head of a full reply share leaves with one request waiting: one of bad form, one without the role, one with it. -/
theorem witness_FramesAreLatchedCheckedQueuedAndSent_waiting :
    let s := (up 2 live).onLane 2 fun n => { n with tx := backedUp, queue := [{ latch := 0, kind := 1, tag := 7, payload := [] }] }
    s.power = .running ∧ s.lanes[2].up = true ∧ s.lanes[2].tx = .reply plain :: List.replicate 7 (.reply plain) ∧
    s.lanes[2].queue = [{ latch := 0, kind := 1, tag := 7, payload := [] }] ∧
    (List.replicate 7 (TxFrame.reply plain)).countP TxFrame.isReply < 8 ∧ (1 : Byte) = Kind.stamp.byte ∧
    Kind.stamp.allows (.lane 2) 0 = true ∧ s.lanes[2].settings.roles.allow .stamp = true ∧
    LaneSettings.atReset.roles.allow .setTrace = false ∧ Kind.setTrace.allows (.lane 2) (traceBytes 1000).length = true ∧
    (∀ k ∈ Kind.all, (1 : Byte) = k.byte → k.allows (.lane 2) 1 = false) := by decide +kernel

theorem witness_RequestsWithoutRightOrFormAreRefused :
    let s := (asks 2 0 live).onLane 2 fun n => { n with settings := LaneSettings.atReset }
    s.power = .running ∧ Instr.request (.setTrace 0 (ends 2 (traceBytes 1000))) = some (ends 2 (traceBytes 1000), .setTrace) ∧
    s.lanes[2].up = true ∧ s.lanes[2].rxLatch = some 0 ∧ s.lanes[2].queue = [] ∧ s.lanes[2].replies < 8 ∧
    Kind.setTrace.allows (.lane 2) (traceBytes 1000).length = true ∧ s.lanes[2].settings.roles.allow .setTrace = false ∧
    live.ops.spi = some 165 ∧ live.ops.reply = none ∧ Instr.request (.echo 0 .ops 7 [0, 0]) = some (port [0, 0], .echo) ∧
    Kind.echo.allows .ops 2 = true ∧ Kind.stamp.allows .ops 0 = true ∧ (128 : Byte) ≠ 4 ∧
    (∀ k ∈ Kind.all, (128 : Byte) ≠ k.byte) ∧ (List.replicate 248 (0 : Byte)).length = 248 ∧
    (∀ k ∈ Kind.all, (1 : Byte) = k.byte → k.allows .ops 248 = false) := by decide +kernel

theorem witness_LaneStatusReportsAndMayClear :
    live.power = .running ∧ meets .laneStatus (ends 15 []) (asks 15 0 live) (fun r => r.path == .lane 15) = true ∧
    meets .laneStatus (port [15, 0]) live (fun r => r.path == .ops && field 0 1 r.payload == 15 && field 1 1 r.payload == 0)
      = true ∧
    meets .laneStatus (port [0, 1]) live (fun r => field 0 1 r.payload == 0 && field 1 1 r.payload == 1) = true ∧
    meets .laneStatus (port [16, 0]) live (fun r => field 0 1 r.payload == 16) = true := by decide +kernel

theorem witness_SetLaneWritesTheSettingsAlone :
    live.power = .running ∧ meets .setLane (port (laneBytes 16 0)) live (fun r => field 0 1 r.payload == 16) = true ∧
    meets .setLane (port (laneBytes 15 20001)) live (fun r => decodeLaneSettings live.ops.limits.cmax r.payload == none)
      = true ∧
    meets .setLane (port (laneBytes 15 20000)) live (fun r =>
      field 0 1 r.payload == 15 && (decodeLaneSettings live.ops.limits.cmax r.payload).isSome) = true := by decide +kernel

/-- A lane with its queues, its shares and its window full. -/
theorem witness_LaneQueuesStayWithinTheirShares :
    let s := (up 4 live).onLane 4 fun n =>
      { n with
        queue := List.replicate 8 { latch := 0, kind := 1, tag := 0, payload := [] }
        tx := List.replicate 8 (.probe 0) ++ backedUp
        window := List.replicate 8 ⟨6772, 0⟩ }
    s.lanesWf ∧ stepped { s with pending := [.frameLeaves 0 4] } (fun _ => true) = true := by
  unfold State.lanesWf Lane.wf; decide +kernel

theorem witness_StampIsDatedClampedAndGraded :
    let s := asks 5 1000057600000000000 live
    let last := fun x => s.onLane 5 fun n => { n with lastStamp := some x }
    s.power = .running ∧ meets .stamp (ends 5 []) s (fun _ => true) = true ∧ s.lanes[5].lastStamp = none ∧
    meets .stamp (ends 5 []) (last maxNs) (fun _ => true) = true ∧ (last maxNs).lanes[5].lastStamp = some maxNs ∧
    meets .stamp (ends 5 []) (last (maxNs - 1)) (fun _ => true) = true ∧
    (last (maxNs - 1)).lanes[5].lastStamp = some 9223372036854775806 := by decide +kernel

theorem witness_KeyedStampIsAStampAndItsRuling :
    let s := asks 5 1000057588541020000
      (keyed 4095 9 (stands 9 (call .settling) (serving 1000057588541020000)))
    s.power = .running ∧ meets .stampKeyed (ends 5 (toBytes 2 4096)) s (fun r => field 0 2 r.payload == 4096) = true ∧
    meets .stampKeyed (ends 5 (toBytes 2 4095)) s (fun r => field 0 2 r.payload == 4095) = true ∧ s.lanes[5].lastStamp = none ∧
    mapLookup 4095 s.groupMap = some 9 ∧ s.slots[9] = some (call .settling) ∧
    meets .stampKeyed (ends 5 (toBytes 2 0)) s (fun r => field 0 2 r.payload == 0) = true ∧ mapLookup 0 s.groupMap = none := by
  decide +kernel

/-- A call in CALL whose T_sched the time has reached and one ns before it, and one whose end stands, in its three outcomes. -/
theorem witness_KeyedStampIsAStampAndItsRuling_brought_up :
    let s := fun ph => stands 9 (call ph) (serving 1000057588541019000)
    let held := traced .window 1000057588541019000 0
    let spent := traced .traceHold 1000057648541019000 2
    (s .call).slots[9] = some (call .call) ∧ (call .call).tSched = 1000057570000000000 ∧
    (s .window).slots[9] = some (call .window) ∧ (call .window).tEnd = some 1000057588541019000 ∧
    ((s .window).evaluate (s .window).ts.ns).trace.dg.meets (call .window).required = true ∧
    (held.evaluate held.ts.ns).trace.dg = .b ∧ Grade.meets .b .a = false ∧
    held.slots[14].any (fun c => c.required == .a && decide (c.holdsUsed < c.holdMax)) = true ∧
    (spent.evaluate spent.ts.ns).trace.dg = .b ∧
    spent.slots[14].any (fun c => c.required == .a && decide (c.holdMax ≤ c.holdsUsed)) = true := by decide +kernel

/-- R91: one stamp past T_sched of a call with W_r = 0 opens its window and takes its end. -/
theorem test_keyed_stamp_opens_and_closes :
    after (.stampKeyed 0 (ends 5 (toBytes 2 300)))
      (asks 5 1000057570000030000 (keyed 300 9 (stands 9 { call .call with wr := 0 } (serving 1000057570000030000)))) (fun t =>
      t.slots[9].any (fun c => c.phase == .settling && c.tEnd == some 1000057570000000000 && c.late == 1 && c.revision == 5)
        && replied 5 (fun r => r.ind.late) t) = true := by
  decide +kernel

theorem witness_RulingFollowsThePhaseAndTheTimes :
    (call .scheduled).phase = .scheduled ∧ (call .cancelled).phase = .cancelled ∧ (call .call).phase ≠ .cancelled ∧
    1000057539999999999 < (call .call).tOpen ∧ (call .call).tOpen ≤ 1000057540000000000 ∧
    (call .settling).tEnd = some 1000057588541019000 ∧ (call .uncrossDue).tEnd = some 1000057588541019000 := by decide

theorem witness_StampsOfALaneStrictlyIncrease :
    Instr.restarts (.stamp 0 (ends 5 [])) = false ∧
    after (.stamp 0 (ends 5 [])) (asks 5 1000057600000000000 live) (fun t => t.lanes[5].sequence == 1) = true ∧
    after (.frameEnd 0 5 (frameBytes 1 7 []) false) (asks 5 1000057600000000000 live) (fun t => t.lanes[5].sequence == 1) = true ∧
    Instr.restarts (.linkUp 0 5) = false ∧ after (.linkUp 0 5) live (fun _ => true) = true := by decide +kernel

theorem witness_ProbesArePlacedDepartAndTimeOut :
    let s := asks 4 0 live
    let busy := s.onLane 4 fun n => { n with tx := List.replicate 8 (.probe 0) }
    let due := (up 4 live).onLane 4 fun n => { n with intervalDue := some 5000000010 }
    let waits := (up 4 live).onLane 4 fun n => { n with tx := [.probe 0], probe := some { tag := 0, departed := none } }
    s.power = .running ∧ meets .calibrate (ends 4 []) s (fun _ => true) = true ∧ s.lanes[4].probe = none ∧
    s.lanes[4].notices < 8 ∧ meets .calibrate (ends 4 []) busy (fun _ => true) = true ∧ busy.lanes[4].notices = 8 ∧
    due.lanes[4].up = true ∧ due.lanes[4].intervalDue = some 5000000010 ∧ (due.elapse 10).ts.raw = 5000000010 ∧
    due.lanes[4].settings.probeInterval ≠ 0 ∧ waits.lanes[4].tx = [.probe 0] ∧
    waits.lanes[4].probe = some { tag := 0, departed := none } ∧ probing.lanes[4].echoDue = some 5000100000 ∧
    (probing.elapse 100000).ts.raw = 5000100000 ∧
    probing.lanes[4].probe = some { tag := 9, departed := some 1000057600000000000 } := by decide +kernel

/-- An echo whose sample is 0 exactly, one below it by 1 ns, and the other outcomes. -/
theorem witness_EchoIsClassifiedByItsTag :
    let s := probing.onLane 4 fun n => { n with rxLatch := some 1000057600000001200, lastExpired := some 8 }
    let waits := s.onLane 4 fun n => { n with probe := some { tag := 9, departed := none } }
    s.power = .running ∧ s.lanes[4].up = true ∧ s.lanes[4].rxLatch = some 1000057600000001200 ∧
    ([0] : List Byte).length ≠ 2 ∧ (toBytes 2 1200).length = 2 ∧
    s.lanes[4].probe = some { tag := 9, departed := some 1000057600000000000 } ∧
    (1000057600000001200 : Int) - 1000057600000000000 - field 0 2 (toBytes 2 1200) = 0 ∧
    (1000057600000001200 : Int) - 1000057600000000000 - field 0 2 (toBytes 2 1201) < 0 ∧
    waits.lanes[4].probe = some { tag := 9, departed := none } ∧ s.lanes[4].lastExpired = some 8 ∧ (9 : Tag) ≠ 8 ∧
    s.lanes[4].lastExpired ≠ some 7 := by decide +kernel

theorem witness_CompensationStaysWithinCmax :
    let s := asks 5 1000057600000000000 live
    let waits := (up 5 live).onLane 5 fun n =>
      { n with tx := backedUp, queue := [{ latch := 1000057600000000000, kind := 1, tag := 77, payload := [] }] }
    let w : List Sample := [⟨6810, 0⟩, ⟨6772, 0⟩, ⟨6905, 0⟩, ⟨6802, 0⟩]
    ([⟨6810, 0⟩, ⟨6772, 0⟩, ⟨6905, 0⟩] : List Sample).length = 3 ∧ w.length = 4 ∧ (∃ x ∈ w, x.d = 6772) ∧
    (∃ x ∈ w, x.d = 6905) ∧ (∀ x ∈ w, 6772 ≤ x.d ∧ x.d ≤ 6905) ∧ Instr.restarts (.stamp 0 (ends 5 [])) = false ∧
    Instr.stamp 0 (ends 5 []) ≠ .frameLeaves 0 5 ∧ s.lanes[5].rxLatch = some 1000057600000000000 ∧
    after (.stamp 0 (ends 5 [])) s (fun t => t.lanes[5].sequence != s.lanes[5].sequence) = true ∧
    waits.lanes[5].queue = [{ latch := 1000057600000000000, kind := 1, tag := 77, payload := [] }] ∧
    after (.frameLeaves 0 5) waits (fun t => t.lanes[5].sequence != waits.lanes[5].sequence) = true := by decide +kernel

/-- Slots 9 and 20 stand; the cursor of the port is 63, of LP3 20. -/
theorem witness_AddressingFormsResolveOrAreRefused :
    let s := scheduled.onLane 3 fun n => { n with cursor := 20 }
    (∀ j : Fin 64, State.reset.slots[j] = none) ∧ s.slots[9].isSome = true ∧
    (∀ j : Fin 64, s.slots[j].isSome = true → ((9 : Fin 64) - s.cursorOf .ops - 1).val ≤ (j - s.cursorOf .ops - 1).val) ∧
    (∀ j : Fin 64, s.slots[j].isSome = true →
      (s.cursorOf (.lane 3) - 1 - (9 : Fin 64)).val ≤ (s.cursorOf (.lane 3) - 1 - j).val) ∧
    mapLookup 4095 s.groupMap = none ∧ mapLookup 300 s.groupMap = some 9 ∧ s.power = .running ∧
    Instr.request (.cancel 0 (port [4, 0, 0])) = some (port [4, 0, 0], .cancel) ∧
    meets .cancel (port [4, 0, 0]) s (fun r => decodeForm 0 r.payload == none) = true ∧
    meets .cancel (port (slotForm 64)) s (fun r => decodeForm 0 r.payload == some (.slot 64)
      && match r.state.resolve r.path (.slot 64) with | .error c => c == .range | .ok _ => false) = true := by
  decide +kernel

/-- The slot a taken request resolves to at offset `off`, and WRAP. -/
def resolves (off : Nat) (r : Taken) (i : Fin 64) (wrap : Bool) : Bool :=
  (r.resolved off).any fun x => x.1 == i && x.2.1 == wrap

theorem witness_QueriesAndSubscriptions :
    let s := stands 9 (call .window) live
    s.power = .running ∧ meets .queryAuction (port nextForm) s (fun r => resolves 0 r 9 true) = true ∧
    s.slots[9] = some (call .window) ∧ Phase.window.endTold = false ∧ Phase.settling.endTold = true ∧
    meets .queryAuction (port (slotForm 63)) s (fun r => resolves 0 r 63 false) = true ∧ s.slots[63] = none ∧
    after (.queryAuction 0 (port nextForm)) s (fun _ => true) = true ∧
    meets .subscribe (port (slotForm 9 ++ [15])) s (fun r => resolves 0 r 9 false && field 3 1 r.payload == 15) = true ∧
    meets .unsubscribe (ends 2 (slotForm 9)) (asks 2 0 s) (fun r => resolves 0 r 9 false && r.path == .lane 2)
      = true ∧
    meets .subscribe (port (slotForm 9 ++ [16])) s (fun r => resolves 0 r 9 false && field 3 1 r.payload == 16) = true := by
  decide +kernel

/-- A SCHEDULE whose T_open is the exchange time of its taking, and one ns later. -/
theorem witness_ScheduleChecksThenFillsTheSlot :
    let at_ := fun ns => stands 20 (call .scheduled) (serving ns)
    live.power = .running ∧ meets .schedule (port (scheduleBytes 9 [300, 300])) live (fun r =>
      !decide (keyList (r.payload.drop 41)).Nodup) = true ∧
    meets .schedule (port (scheduleBytes 64 [])) live (fun r => (decodeSchedule r.payload).any fun q => q.slot == 64) = true ∧
    meets .schedule (port (scheduleBytes 9 [4096])) live (fun r => keyList (r.payload.drop 41) == [4096]) = true ∧
    meets .schedule (port (scheduleBytes 20 [])) (at_ 1000057539999999999) (fun r =>
      (decodeSchedule r.payload).any fun q => q.slot == 20 && q.required == some .b) = true ∧
    (at_ 0).slots[20].isSome = true ∧ (at_ 0).slots[63] = none ∧
    meets .schedule (port (scheduleBytes 63 [])) (at_ 1000057540000000000) (fun r =>
      (decodeSchedule r.payload).any fun q => q.tOpen == r.instant) = true ∧
    meets .schedule (port (scheduleBytes 63 [0, 4095])) (at_ 1000057539999999999) (fun r =>
      (decodeSchedule r.payload).any fun q => q.tOpen == r.instant + 1 && q.ok) = true := by decide +kernel

/-- The bytes of a SCHEDULE of slot 9 with T_sched `sched` and required grade code `g` (11.5). -/
def oddSchedule (sched : Nat) (g : Byte) : List Byte :=
  [9, 0x20] ++ timeBytes (some 1000057540000000000) ++ timeBytes (some sched) ++ toBytes 4 30000000 ++ toBytes 14 0 ++ [g]
    ++ toBytes 2 0

/-- The other refusals: an encoding that names nothing, UNTRACED as a required grade, T_sched at T_open, a key that is held. -/
theorem witness_ScheduleChecksThenFillsTheSlot_refusals :
    meets .schedule (port (oddSchedule 1000057570000000000 5)) fresh (fun r => decodeSchedule r.payload == none) = true ∧
    meets .schedule (port (oddSchedule 1000057570000000000 3)) fresh (fun r =>
      (decodeSchedule r.payload).any fun q => q.required == none && decide (r.instant < q.tOpen)) = true ∧
    meets .schedule (port (oddSchedule 1000057540000000000 1)) fresh (fun r =>
      (decodeSchedule r.payload).any fun q => q.required == some .b && !q.ok && decide (r.instant < q.tOpen)) = true ∧
    meets .schedule (port (scheduleBytes 9 [302, 300])) morning (fun r => keyList (r.payload.drop 41) == [302, 300]) = true ∧
    mapLookup 302 morning.groupMap = none ∧ mapLookup 300 morning.groupMap = some 4 ∧
    morning.slots[4] = some { call .uncrossDue with revision := 6 } ∧ Phase.uncrossDue.holdsKeys = true := by decide +kernel

/-- The bytes of a RESCHEDULE of slot 9 (11.5). -/
def rescheduleBytes (pr : Byte) (open_ sched wr : Nat) : List Byte :=
  slotForm 9 ++ [pr] ++ timeBytes (some open_) ++ timeBytes (some sched) ++ toBytes 4 wr

theorem witness_RescheduleMovesTheTimes :
    let s := stands 9 (call .scheduled) (serving 1000057500000000000)
    let takes := fun b p => meets .reschedule (port b) s fun r =>
      resolves 0 r 9 false && r.instant == 1000057500000000000 && (decodeChange r.payload).any p
    s.power = .running ∧ s.slots[9] = some (call .scheduled) ∧ s.slots[10] = none ∧
    meets .reschedule (port (slotForm 10 ++ [4] ++ timeBytes none ++ timeBytes none ++ toBytes 4 0)) s (fun r =>
      resolves 0 r 10 false && (decodeChange r.payload).isSome && field 3 1 r.payload % 8 != 0) = true ∧
    meets .reschedule (port (rescheduleBytes 8 0 0 0)) s (fun r => field 3 1 r.payload % 8 == 0) = true ∧
    meets .reschedule (port (slotForm 9 ++ [1] ++ timeBytes none ++ timeBytes none ++ toBytes 4 0)) s (fun r =>
      decodeChange r.payload == none && field 3 1 r.payload % 8 != 0) = true ∧
    takes (rescheduleBytes 1 1000057500000000000 0 0) (fun q => q.tOpen == some 1000057500000000000) = true ∧
    takes (rescheduleBytes 2 0 1000057540000000000 0) (fun q => q.tOpen == none && q.tSched == some 1000057540000000000) = true ∧
    takes (rescheduleBytes 6 0 1000057540000000001 600000000) (fun q => q.wr == some 600000000 && q.ok) = true ∧
    takes (rescheduleBytes 4 0 0 600000001) (fun q => !q.ok) = true ∧
    takes (rescheduleBytes 4 0 0 30000000) (fun q => (call .scheduled).retimed q == call .scheduled) = true := by decide +kernel

theorem witness_RescheduleMovesTheTimes_call :
    let c := { call .call with latestIn := some 1000057541000000000 }
    let s := stands 9 c (serving 1000057541000000000)
    let takes := fun b p => meets .reschedule (port b) s fun r => resolves 0 r 9 false && (decodeChange r.payload).any p
    s.slots[9] = some c ∧ takes (rescheduleBytes 1 1000057550000000000 0 0) (fun q => q.tOpen.isSome) = true ∧
    takes (rescheduleBytes 2 0 1000057541000000000 0) (fun q => q.tOpen == none && q.tSched == some 1000057541000000000) = true ∧
    takes (rescheduleBytes 2 0 1000057541000000001 0) (fun q => q.ok && q.tSched.all (c.schedOk 1000057541000000000)) = true ∧
    (stands 9 (call .window) live).slots[9] = some (call .window) := by decide +kernel

theorem witness_CancelRetireAndTheKeys :
    let s := fun ph => stands 9 (call ph) scheduled
    let takes := fun k b ph p => meets k (port b) (s ph) p
    (s .window).power = .running ∧ (s .window).slots[9] = some (call .window) ∧
    takes .cancel (slotForm 9) .uncrossDue (fun r => resolves 0 r 9 false) = true ∧
    takes .cancel nextForm .settling (fun r => resolves 0 r 9 true) = true ∧
    takes .retire (slotForm 9) .settling (fun r => resolves 0 r 9 false) = true ∧
    takes .retire (slotForm 9) .cancelled (fun r => resolves 0 r 9 false) = true ∧
    takes .cancel (slotForm 63) .window (fun r => resolves 0 r 63 false) = true ∧ (s .window).slots[63] = none ∧
    takes .retire (slotForm 63) .window (fun r => resolves 0 r 63 false) = true ∧
    takes .mapKey (toBytes 2 4096 ++ slotForm 9) .call (fun r => field 0 2 r.payload == 4096) = true ∧
    takes .mapKey (toBytes 2 4095 ++ slotForm 9) .call (fun r => resolves 2 r 9 false) = true ∧
    takes .mapKey (toBytes 2 4095 ++ slotForm 63) .call (fun r => resolves 2 r 63 false) = true ∧
    (s .call).slots[63] = none ∧ mapLookup 4095 (s .call).groupMap = none ∧
    takes .mapKey (toBytes 2 300 ++ slotForm 20) .call (fun r => resolves 2 r 20 false) = true ∧
    mapLookup 300 (s .call).groupMap = some 9 ∧ Phase.call.holdsKeys = true ∧ (s .call).slots[20].isSome = true ∧
    takes .unmapKey (toBytes 2 4096) .call (fun r => field 0 2 r.payload == 4096) = true ∧
    takes .unmapKey (toBytes 2 4095) .call (fun r => field 0 2 r.payload == 4095) = true ∧
    takes .unmapKey (toBytes 2 300) .settling (fun r => field 0 2 r.payload == 300) = true ∧ Phase.settling.live = true ∧
    takes .unmapKey (toBytes 2 300) .uncrossDue (fun r => field 0 2 r.payload == 300) = true ∧
    Phase.uncrossDue.live = false := by decide +kernel

/-- A member lane that is UP with a free entry, one whose share is full, one that is DOWN; and a lane outside the set. -/
theorem witness_EveryStageRevisesRefilesAndNotifies :
    let s := (up 5 live).onLane 5 fun n => { n with tx := List.replicate 7 (.probe 0) }
    let full := (up 5 live).onLane 5 fun n => { n with tx := List.replicate 8 (.probe 0) }
    (call .settling).notices.getLsbD 5 = true ∧ s.lanes[5].up = true ∧ s.lanes[5].notices < 8 ∧ full.lanes[5].up = true ∧
    full.lanes[5].notices = 8 ∧ (call .settling).notices.getLsbD 2 = true ∧ s.lanes[2].up = false ∧
    (call .settling).notices.getLsbD 15 = false ∧ (call .settling).tEnd = some 1000057588541019000 ∧
    (call .window).phase = .window := by decide +kernel

/-- Each expiry at its due time exactly; the end in each of its three outcomes. -/
theorem witness_ExpiriesMoveTheCallOn :
    let s := fun ph ns => stands 9 (call ph) (serving ns)
    let due := fun ph ns => expiryOf 9 (s ph ns).expiry = some ns ∧ (s ph ns).ts.ns = ns
    (s .call 0).power = .running ∧ (s .call 0).slots[9] = some (call .call) ∧ due .scheduled 1000057540000000000 ∧
    (s .scheduled 0).inService = true ∧ (stands 9 (call .scheduled) acquiring).inService = false ∧
    due .call 1000057570000000000 ∧ due .window 1000057588541019000 ∧ due .settling 1000057588541089000 ∧
    Grade.meets .a .b = true ∧ (traced .window 1000057588541019000 0).slots[14].any (fun c => c.holdsUsed < c.holdMax) = true ∧
    (traced .traceHold 1000057648541019000 2).slots[14].any (fun c => c.holdMax ≤ c.holdsUsed) = true ∧
    expiryOf 14 (traced .traceHold 1000057648541019000 2).expiry = some 1000057648541019000 ∧
    (let u := traced .traceHold 1000057648541019000 2
     evalGrade u.trace.settings u.inService u.trace.dg (u.bound u.ts.ns)) = .b ∧ Grade.meets .b .a = false := by
  decide +kernel

/-- One ns before the end and at it; the extensions spent; and the phases that refuse. -/
theorem witness_ExtensionsNeverBringTheEndEarlier :
    let s := fun c ns => stands 9 c (serving ns)
    let takes := fun c ns => meets .extend (port (slotForm 9 ++ toBytes 4 999)) (s c ns) fun r =>
      resolves 0 r 9 false && r.instant == ns
    let spent := fun c : Call => { c with extUsed := 3 }
    (s (call .call) 0).power = .running ∧ (s (call .call) 0).slots[9] = some (call .call) ∧
    takes (call .call) 1000057569999999999 = true ∧ takes (spent (call .call)) 1000057569999999999 = true ∧
    takes (call .window) 1000057588541018999 = true ∧ takes (spent (call .extended)) 1000057588541018999 = true ∧
    takes (call .traceHold) 1000057588541018999 = true ∧ takes (call .settling) 1000057588541019000 = true ∧
    takes (call .scheduled) 1000057500000000000 = true ∧ takes (call .window) 1000057588541019000 = true ∧
    (call .window).tEnd = some 1000057588541019000 ∧ (call .call).tSched = 1000057570000000000 ∧
    (let e := s (call .window) 1000057588541019000
     (e.evaluate e.ts.ns).trace.dg.meets (call .window).required) = true := by decide +kernel

/-- A FREE slot; a T_sched and an end that the arrival has reached, the end in its three outcomes; and the phases that judge. -/
theorem witness_ExtensionsNeverBringTheEndEarlier_brought_up :
    let takes := fun s j ns => meets .extend (port (slotForm j ++ toBytes 4 999)) s fun r => resolves 0 r (Fin.ofNat 64 j) false
      && r.instant == ns
    let s := stands 9 (call .call) (serving 1000057570000000000)
    let held := traced .window 1000057588541019000 0
    let spent := traced .traceHold 1000057648541019000 2
    takes s 10 1000057570000000000 = true ∧ s.slots[10] = none ∧ takes s 9 1000057570000000000 = true ∧
    s.slots[9] = some (call .call) ∧ (call .call).tSched ≤ 1000057570000000000 ∧
    takes held 14 1000057588541019000 = true ∧ (held.evaluate held.ts.ns).trace.dg = .b ∧
    held.slots[14].any (fun c => c.required == .a && decide (c.holdsUsed < c.holdMax)) = true ∧
    takes spent 14 1000057648541019000 = true ∧ (spent.evaluate spent.ts.ns).trace.dg = .b ∧
    spent.slots[14].any (fun c => c.required == .a && decide (c.holdMax ≤ c.holdsUsed)) = true ∧
    (held.bringUp 14 1000057588541019000).slots[14].any (fun c => c.phase == .traceHold) = true ∧
    (spent.bringUp 14 1000057648541019000).slots[14].any (fun c => c.phase == .settling) = true := by decide +kernel

/-- R137, R140: an EXTEND that takes an end the grade does not close finds CALL_HELD; with the holds spent, TOO_LATE; a FREE slot is
WRONG_PHASE. -/
theorem test_extend_takes_the_end_first :
    after (.extend 0 (port (slotForm 14 ++ toBytes 4 5000))) (traced .window 1000057588541019000 0)
      (answered fun r => r.code == .callHeld && r.body == .slotRevision 14 4) = true ∧
    after (.extend 0 (port (slotForm 14 ++ toBytes 4 5000))) (traced .traceHold 1000057648541019000 2) (fun t =>
      answered (fun r => r.code == .tooLate && r.ind.late && r.body == .slotRevision 14 4) t
        && hasAlert .auctionClosedUntraced t.ops.alerts) = true ∧
    after (.extend 0 (port (slotForm 10 ++ toBytes 4 5000))) live
      (answered fun r => r.code == .wrongPhase && r.body == .slotRevision 10 0) = true := by decide +kernel

/-- A call in SETTLING that closed on its required grade. -/
theorem witness_CallsKeepTheirEndsAndTheirHolds :
    let s := stands 9 { call .settling with latestIn := some 1000057588541018999 } live
    (s.everyCall fun c => c.endPresent ∧ c.eighthLaw ∧ c.ninthLaw ∧ c.tenthLaw) ∧
    stepped { s with pending := [.settleExpiry 0 9] } (fun _ => true) = true := by
  refine ⟨fun i c h => ?_, by decide +kernel⟩
  have only : ∀ i : Fin 64,
      (stands 9 { call .settling with latestIn := some 1000057588541018999 } live).slots[i] = none ∨
      (stands 9 { call .settling with latestIn := some 1000057588541018999 } live).slots[i] =
        some { call .settling with latestIn := some 1000057588541018999 } := by decide +kernel
  rcases only i with e | e <;> rw [e] at h
  · cases h
  · cases h
    refine ⟨⟨by decide, by decide⟩, ?_, by unfold Call.ninthLaw; decide, fun _ => ⟨.a, rfl, rfl, by decide⟩⟩
    intro t e ht he
    cases ht
    cases he
    decide

theorem witness_KeysAndExpiriesFollowTheTable :
    scheduled.eleventhLaw ∧ stepped { scheduled with pending := [.openExpiry 7600000000000 9] } (fun _ => true) = true := by
  unfold State.eleventhLaw; decide +kernel

/-- The port holds a snapshot of a call in WINDOW. -/
theorem witness_NoReplyTellsAnEndNotTaken :
    let s := stands 9 (call .window) live
    let r : Reply := { kind := 8, tag := 0, code := .done, ind := .clear, body := .snapshot (s.snapshot 9) }
    let t := { s with ops := { s.ops with reply := some r } }
    t.seventhLaw ∧ t.everyCall Call.tenthLaw ∧ stepped { t with pending := [.opsRead 0 (.begins 90)] } (fun _ => true) = true := by
  have only : ∀ i : Fin 64,
      (stands 9 (call .window) live).slots[i] = none ∨ (stands 9 (call .window) live).slots[i] = some (call .window) := by
    decide +kernel
  refine ⟨⟨fun r h => ?_, fun l f h => ?_, fun i c h => ?_⟩, fun i c h => ?_, by decide +kernel⟩
  · cases h
    intro c h
    have e : ((stands 9 (call .window) live).snapshot 9).call = some { call .window with tEnd := none, draw := none } := by
      decide +kernel
    rw [e] at h
    cases h
    exact ⟨fun _ => ⟨rfl, rfl⟩, fun h => by cases h⟩
  · have e : ∀ l : Fin 16, (stands 9 (call .window) live).lanes[l].tx = [] := by decide +kernel
    exact absurd (e l ▸ h) (by simp)
  · rcases only i with e | e <;> rw [e] at h
    · cases h
    · cases h
      intro h
      cases h
  · rcases only i with e | e <;> rw [e] at h
    · cases h
    · cases h
      rintro (h | h) <;> cases h

/-- R125: a call cancelled in SETTLING keeps its end with its close grade, and one cancelled in WINDOW drops the end. -/
theorem test_cancelled_records :
    after (.cancel 0 (port (slotForm 9))) (stands 9 (call .settling) live) (fun t => t.slots[9].any fun c =>
      c.phase == .cancelled && c.tEnd == some 1000057588541019000 && c.closeGrade == some .a) = true ∧
    after (.cancel 0 (port (slotForm 9))) (stands 9 (call .window) live) (fun t => t.slots[9].any fun c =>
      c.phase == .cancelled && c.tEnd == none && c.draw == none) = true := by decide +kernel

/-- The settle expiry places a CLOSE_NOTICE at the UP lane of the notice set. -/
theorem witness_NoReplyTellsAnEndNotTaken_notice :
    let s := up 5 (stands 9 (call .settling) (serving 1000057588541089000))
    let n : CloseNotice :=
      { slot := 9, revision := 4, tOpen := 1000057540000000000, tEnd := some 1000057588541019000, draw := some 2654435769
        inCall := 0, late := 0, stragglers := 0, latestIn := none, required := .b, closeGrade := some .a
        untracedFlag := some false, extUsed := 0, holdsUsed := 0 }
    after (.settleExpiry 0 9) s (fun t => decide (TxFrame.closeNotice n ∈ t.lanes[5].tx)) = true ∧
    TxFrame.closeNotice n ∉ s.lanes[5].tx := by decide +kernel

/-- The bytes of a SET_DEVICE_LIMITS (11.3). -/
def limitBytes (cmax guard : Nat) : List Byte := toBytes 4 cmax ++ toBytes 4 guard ++ toBytes 4 50000 ++ toBytes 4 2000 ++ [0]

theorem witness_TransactionsAndDeviceLimits :
    live.power = .running ∧ parseFrame [42, 0, 0, 0, 0] = none ∧ replyReady.ops.reply.isSome = true ∧
    (parseFrame (frameBytes 42 0 [])).isSome = true ∧
    Instr.request (.setTrace 0 (port (List.replicate 248 0))) = some (port (List.replicate 248 0), .setTrace) ∧
    live.ops.reply = none ∧ live.ops.spi = some 165 ∧ replyReady.ops.spi = some 165 ∧ (spi 90 live).ops.spi = some 90 ∧
    (spi 90 replyReady).ops.reply = replyReady.ops.reply ∧ replyReady.ops.reply.any (fun r => r.bytes.length == 9) = true ∧
    meets .setDeviceLimits (port (limitBytes 1000001 1000)) live (fun r => decodeLimits r.payload == none) = true ∧
    meets .setDeviceLimits (port (limitBytes 1000000 1000)) (stands 9 (call .settling) live) (fun r =>
      (decodeLimits r.payload).any fun d => live.ops.limits.movesSettle d) = true ∧
    (stands 9 (call .settling) live).anyLive = true ∧
    meets .setDeviceLimits (port (limitBytes 20000 50000)) (stands 9 (call .settling) live) (fun r =>
      (decodeLimits r.payload).any fun d => !live.ops.limits.movesSettle d) = true ∧ live.anyLive = false ∧
    meets .setDeviceLimits (port (limitBytes 0 10000000)) live (fun r => (decodeLimits r.payload).isSome) = true := by
  decide +kernel

theorem witness_AlertsAreReadOnceAndMasked :
    live.power = .running ∧ live.ops.spi = some 165 ∧ live.ops.reply = none ∧ hasAlert .resetDone live.ops.alerts = true ∧
    after (.readAlerts 0 (port [])) live (fun t => after (.opsRead 5 (.begins 165)) t fun _ => true) = true ∧
    (parseFrame (frameBytes 42 0 [])).isSome = true ∧
    Instr.request (.readAlerts 5 (port [])) = some (port [], .readAlerts) ∧ formOk .ops 128 0 = false ∧
    Instr.restarts (.opsRead 0 .complete) = false ∧ replyReady.ops.reply.isSome = true ∧
    after (.opsRead 0 (.released 9)) (spi 90 replyReady) (fun t => t.ops.reply == none) = true ∧
    field 0 2 [0x20, 0x00] = 8192 ∧ field 0 2 [0x1F, 0xFF] = 8191 ∧ (8191 : Nat).testBit Alert.resetDone.index = true ∧
    held.power = .held .resetPin ∧ after .runStart held (fun _ => true) = true ∧
    after (.systemReset 0 (port [])) live (fun _ => true) = true := by decide +kernel

theorem witness_RetainedDomainIsReadAndWritten :
    let on := { live with retained := { live.retained with writeEnable := true } }
    let writes := fun s c v => meets .retainedWrite (port (c :: toBytes 4 v)) s fun r => field 1 4 r.payload == v
    live.power = .running ∧ meets .retainedEnable (port [1]) live (fun r => field 0 1 r.payload == 1) = true ∧
    meets .retainedEnable (port [0]) live (fun r => field 0 1 r.payload == 0) = true ∧
    meets .retainedEnable (port [2]) live (fun r => field 0 1 r.payload == 2) = true ∧
    meets .retainedRead (port []) live (fun _ => true) = true ∧ writes live 2 0 = true ∧ writes live 1 0 = true ∧
    live.retained.writeEnable = false ∧ on.retained.writeEnable = true ∧ writes on 0 500000000 = true ∧
    (signed 4 500000000).natAbs = 500000000 ∧ writes on 0 (2 ^ 32 - 500000001) = true ∧
    (signed 4 (2 ^ 32 - 500000001)).natAbs = 500000001 ∧ writes on 1 0 = true ∧ writes on 1 500000001 = true := by decide +kernel

theorem witness_RunsBeginAtResetValues :
    held.power = .held .resetPin ∧ live.power = .running ∧ live.ops.spi = some 165 ∧ live.ops.reply = none ∧ off.power = .off ∧
    held.power ≠ .off ∧ live.backup = true ∧ ({ live with backup := false } : State).power ≠ .off ∧
    ({ off with retained := { off.retained with valid := true, savedRate := -100000001 } } : State).retained.valid = true ∧
    off.retained.valid = false := by decide +kernel

theorem witness_AlertsAndSavedRateChangeOnlyByTheirRules :
    hasAlert .resetDone live.ops.alerts = true ∧
    after (.readAlerts 0 (port [])) live (fun t => !hasAlert .resetDone t.ops.alerts) = true ∧
    after (.retainedWrite 0 (port (0 :: toBytes 4 5)))
      { live with retained := { live.retained with writeEnable := true } } (fun t =>
      t.retained.savedRate != live.retained.savedRate) = true ∧
    after (.pulseEdge 999997482 0 .rising (BitVec.ofNat 48 1000057601) false) live (fun t =>
      t.retained.valid && !live.retained.valid) = true ∧
    after .powerLoss { live with backup := false, retained := { live.retained with valid := true, savedRate := 5 } } (fun t =>
      t.retained.savedRate != 5) = true := by decide +kernel

theorem witness_FramesAndTimesReadBack :
    (List.replicate 248 (0xFF : Byte)).length = 248 ∧ (∀ x, some maxNs = some x → x ≤ maxNs) ∧
    (0 : Byte) ≠ ([1, 0, 7, 0] : List Byte)[0] := by
  refine ⟨List.length_replicate .., ?_, by decide⟩
  rintro x ⟨⟩
  exact Nat.le_refl _

end Sys2Proof.Tests
end

section
/-! PROOFS. The bound, the device grade and the evidence of chapter 3 out of service. -/

namespace Sys2Proof.Machine

/-! ### The bound (R47 to R50) -/

theorem TimescaleState.inService_eq_false_iff (st : TimescaleState) :
    st.inService = false ↔ st = .unset ∨ st = .acquiring := by
  cases st <;> decide

/-- Out of service no term of the bound counts: the saturated value stands whatever the last applied mark (R48). -/
theorem boundAt_out_of_service (set : TraceSettings) (ts : Timescale) (t : Nat) (h : ts.state.inService = false) :
    boundAt set ts t = cap32 := by
  simp only [boundAt, h]

theorem State.bound_out_of_service (s : State) (t : Nat) (h : s.inService = false) : s.bound t = cap32 :=
  boundAt_out_of_service s.trace.settings s.ts t h

/-- The held sum of R54 keeps a saturated bound saturated: its other terms only add. -/
@[simp] theorem stampBound_cap32 (n : Lane) (d : Dated) : stampBound cap32 n d = cap32 := by
  have hle : cap32 ≤ cap32 + n.derived.u + (d.t - d.t0) := by omega
  exact Nat.min_eq_left hle

/-! ### The device grade (R51 to R53) -/

theorem TraceSettings.ok_iff (t : TraceSettings) :
    t.ok = true ↔ t.w ≤ 10000000 ∧ t.q ≤ 1000000 ∧ 1 ≤ t.gA ∧ t.gA < t.gB ∧ t.gB < t.gC ∧ t.gC ≤ 4000000000 := by
  simp [TraceSettings.ok, and_assoc]

/-- A bound above every threshold, and no other, is UNTRACED. -/
theorem plainGrade_eq_untraced_iff (t : TraceSettings) (u : Nat) :
    plainGrade t u = .untraced ↔ t.gA < u ∧ t.gB < u ∧ t.gC < u := by
  unfold plainGrade
  split_ifs <;> simp <;> omega

/-- Every settable threshold lies below the saturated bound (3.7). -/
theorem plainGrade_cap32 (t : TraceSettings) (h : t.ok = true) : plainGrade t cap32 = .untraced := by
  obtain ⟨-, -, -, hAB, hBC, hC⟩ := t.ok_iff.mp h
  have hcap : t.gC < cap32 := Nat.lt_of_le_of_lt hC (by decide)
  exact (plainGrade_eq_untraced_iff t cap32).mpr ⟨by omega, by omega, hcap⟩

@[simp] theorem evalGrade_out_of_service (t : TraceSettings) (dg : Grade) (u : Nat) :
    evalGrade t false dg u = .untraced := rfl

/-! ### The trace sample (R57, R58) -/

@[simp] theorem State.evaluate_interval (s : State) (t : Nat) : (s.evaluate t).trace.interval = s.trace.interval := by
  simp [State.evaluate, State.evaluateWith_eq]

theorem State.sampleAt_worstU (s : State) (t : Nat) :
    (s.sampleAt t).trace.interval.worstU = max s.trace.interval.worstU (s.bound t) := by
  simp [State.sampleAt, Evidence.sample]

/-! ### What the statements say -/

/-- Settles O24: out of service the bound is `cap32`, and each reader of the bound keeps that value or grades it UNTRACED. -/
theorem boundIsSaturatedOutOfService : Obligations.BoundIsSaturatedOutOfService := by
  intro s t hstate
  have hout : s.inService = false := s.ts.state.inService_eq_false_iff.mpr hstate
  have hbound : s.bound t = cap32 := s.bound_out_of_service t hout
  refine ⟨hbound, fun n d => ?stamp, fun hworst => ?sample, fun hok => ⟨?plain, ?device⟩⟩
  case stamp => rw [hbound]; exact stampBound_cap32 n d
  case sample => rw [State.sampleAt_worstU, hbound]; exact Nat.max_eq_right hworst
  case plain => rw [hbound]; exact plainGrade_cap32 s.trace.settings hok
  case device => rw [State.evaluate_dg, hout, evalGrade_out_of_service]

end Sys2Proof.Machine
end

section
/-! PROOFS. The reply buffer of the operations port: no event but a request taken there, a READ released after its last byte and a
restart changes it (R152 to R154). One lemma per operation of the machine, in the order of the model's files. -/

namespace Sys2Proof.Machine

variable (s : State)

/-! ### Time, lanes and calibration -/

/-- What holds before an event and after its work holds of the state the event leaves: a part that is held or has no power keeps its
state (R162). -/
theorem atEvent_keeps {s t : State} {dt : Nat} {act : State → State} {P : State → Prop} (hs : P s) (hact : P (act (s.elapse dt)))
    (h : s.atEvent dt act = .next t) : P t := by
  by_cases hp : s.power = .running
  · rw [atEvent_running hp] at h
    cases h
    exact hact
  · rw [atEvent_still hp] at h
    cases h
    exact hs

/-- An event keeps the reply buffer where its work does. -/
theorem atEvent_reply {s t : State} {dt : Nat} {act : State → State} (hact : ∀ u, (act u).ops.reply = u.ops.reply)
    (h : s.atEvent dt act = .next t) : t.ops.reply = s.ops.reply :=
  atEvent_keeps (P := fun u => u.ops.reply = s.ops.reply) rfl (hact _) h

@[simp] theorem refuse_fst (c : Code) : (refuse c s).1 = s := rfl

@[simp] theorem State.useWindow_reply (l : Fin 16) (f : Lane → Lane) : (s.useWindow l f).ops.reply = s.ops.reply := by
  unfold State.useWindow
  split <;> rfl

@[simp] theorem State.ageLane_reply (l : Fin 16) : (s.ageLane l).ops.reply = s.ops.reply := s.useWindow_reply l _

@[simp] theorem intervalExpiry_reply (l : Fin 16) : (intervalExpiry l s).ops.reply = s.ops.reply := by
  unfold intervalExpiry
  split
  · split <;> rfl
  · rfl

@[simp] theorem probeLeavesPort_reply (l : Fin 16) : (probeLeavesPort l s).ops.reply = s.ops.reply := by
  unfold probeLeavesPort
  split <;> rfl

@[simp] theorem echoTimerExpires_reply (l : Fin 16) : (echoTimerExpires l s).ops.reply = s.ops.reply := by
  unfold echoTimerExpires
  split
  · split <;> rfl
  · rfl

@[simp] theorem State.answerProbe_reply (l : Fin 16) (latch departed turnaround : Nat) :
    (s.answerProbe l latch departed turnaround).ops.reply = s.ops.reply := by
  unfold State.answerProbe
  dsimp only
  split <;> simp

@[simp] theorem State.classifyEcho_reply (l : Fin 16) (latch : Nat) (tag : Tag) (payload : List Byte) :
    (s.classifyEcho l latch tag payload).ops.reply = s.ops.reply := by
  unfold State.classifyEcho
  (repeat' split) <;> simp

@[simp] theorem linkComesUp_reply (l : Fin 16) : (linkComesUp l s).ops.reply = s.ops.reply := by
  unfold linkComesUp
  split <;> rfl

@[simp] theorem linkGoesDown_reply (l : Fin 16) : (linkGoesDown l s).ops.reply = s.ops.reply := by
  unfold linkGoesDown
  split <;> simp

@[simp] theorem delimiterArrives_reply (l : Fin 16) : (delimiterArrives l s).ops.reply = s.ops.reply := by
  unfold delimiterArrives
  split <;> rfl

/-! ### Traceability and dating -/

@[simp] theorem State.changeState_reply (st : TimescaleState) : (s.changeState st).ops.reply = s.ops.reply := by
  simp [State.changeState]

@[simp] theorem State.sampleAt_reply (t : Nat) : (s.sampleAt t).ops.reply = s.ops.reply := by simp [State.sampleAt]

@[simp] theorem State.dateStamp_reply (l : Fin 16) (tArr : Nat) : (s.dateStamp l tArr).1.ops.reply = s.ops.reply := by
  simp [State.dateStamp]

/-! ### Calls -/

@[simp] theorem State.openWindow_reply (i : Fin 64) (c : Call) : (s.openWindow i c).ops.reply = s.ops.reply := rfl

@[simp] theorem State.closeOrHold_reply (i : Fin 64) (c : Call) (dg : Grade) : (s.closeOrHold i c dg).ops.reply = s.ops.reply := by
  unfold State.closeOrHold
  split
  · split <;> rfl
  · rfl

@[simp] theorem State.takeEnd_reply (i : Fin 64) (c : Call) : (s.takeEnd i c).ops.reply = s.ops.reply := by simp [State.takeEnd]

@[simp] theorem State.takeEnds_reply (i : Fin 64) (t n : Nat) : (s.takeEnds i t n).ops.reply = s.ops.reply := by
  induction n generalizing s with
  | zero => rfl
  | succ n ih =>
    unfold State.takeEnds
    split
    · split
      · rw [ih, State.takeEnd_reply]
      · rfl
    · rfl

@[simp] theorem State.bringUp_reply (i : Fin 64) (t : Nat) : (s.bringUp i t).ops.reply = s.ops.reply := by
  simp only [State.bringUp, State.takeEnds_reply]
  unfold State.openWindowBy
  split
  · split <;> rfl
  · rfl

/-- A due expiry keeps the reply buffer where its work on the record does. -/
theorem State.onDue_reply (i : Fin 64) {act : Call → State → State} (hact : ∀ c u, (act c u).ops.reply = u.ops.reply) :
    (s.onDue i act).ops.reply = s.ops.reply := by
  unfold State.onDue
  split
  · next c _ =>
    split
    · exact hact c s
    · rfl
  · rfl

@[simp] theorem State.openCall_reply (i : Fin 64) (c : Call) : (s.openCall i c).ops.reply = s.ops.reply := by
  unfold State.openCall
  split <;> rfl

@[simp] theorem State.settleCall_reply (i : Fin 64) (c : Call) : (s.settleCall i c).ops.reply = s.ops.reply := rfl

@[simp] theorem State.judgeExtend_reply (i : Fin 64) (arrival carried applied : Nat) (c : Call) :
    (s.judgeExtend i arrival carried applied c).1.ops.reply = s.ops.reply := by
  unfold State.judgeExtend
  (repeat' split) <;> rfl

@[simp] theorem State.ruleStamp_reply (i : Fin 64) (t : Nat) : (s.ruleStamp i t).1.ops.reply = s.ops.reply := by
  unfold State.ruleStamp
  dsimp only
  split <;> simp

@[simp] theorem State.ruleKey_reply (k t : Nat) : (s.ruleKey k t).1.ops.reply = s.ops.reply := by
  unfold State.ruleKey
  split <;> simp

/-! ### Marks and references -/

@[simp] theorem State.becomeActive_reply (p : Fin 4) : (s.becomeActive p).ops.reply = s.ops.reply := rfl

@[simp] theorem State.applyLocked_reply (p : Fin 4) (m : Mark) (θ : Int) : (s.applyLocked p m θ).ops.reply = s.ops.reply := rfl

@[simp] theorem State.stepBy_reply (θ : Int) (tMark uRef : Nat) : (s.stepBy θ tMark uRef).ops.reply = s.ops.reply := by
  unfold State.stepBy State.sampleAtStep
  (repeat' split) <;> simp

@[simp] theorem State.lock_reply : s.lock.ops.reply = s.ops.reply := by simp [State.lock]

@[simp] theorem State.applyAcquiring_reply (p : Fin 4) (m : Mark) (θ : Int) :
    (s.applyAcquiring p m θ).ops.reply = s.ops.reply := by
  unfold State.applyAcquiring
  dsimp only
  (repeat' split) <;> simp

@[simp] theorem State.applyMark_reply (p : Fin 4) (m : Mark) (θ : Int) : (s.applyMark p m θ).ops.reply = s.ops.reply := by
  unfold State.applyMark
  split <;> simp

@[simp] theorem State.applyFirstMark_reply (p : Fin 4) (m : Mark) (θ : Int) :
    (s.applyFirstMark p m θ).ops.reply = s.ops.reply := by
  unfold State.applyFirstMark
  split <;> simp

@[simp] theorem State.loseActive_reply : s.loseActive.ops.reply = s.ops.reply := by
  unfold State.loseActive
  dsimp only
  (repeat' split) <;> simp

@[simp] theorem State.failRef_reply (p : Fin 4) (c : FailureCause) : (s.failRef p c).ops.reply = s.ops.reply := by
  unfold State.failRef
  dsimp only
  split <;> simp

@[simp] theorem State.select_reply (p : Fin 4) (m : Mark) (θ : Int) : (s.select p m θ).ops.reply = s.ops.reply := by
  unfold State.select
  split <;> simp

@[simp] theorem State.vote_reply (p : Fin 4) (θ : Int) : (s.vote p θ).ops.reply = s.ops.reply := by
  unfold State.vote
  dsimp only
  split <;> simp

@[simp] theorem State.revert_reply (p old : Fin 4) (m : Mark) (θ : Int) : (s.revert p old m θ).ops.reply = s.ops.reply := by
  unfold State.revert
  split <;> simp

@[simp] theorem State.voteMark_reply (p active : Fin 4) (m : Mark) (θ : Int) :
    (s.voteMark p active m θ).ops.reply = s.ops.reply := by
  unfold State.voteMark
  dsimp only
  split <;> simp

@[simp] theorem State.passOn_reply (p : Fin 4) (m : Mark) (θ : Int) : (s.passOn p m θ).ops.reply = s.ops.reply := by
  unfold State.passOn
  (repeat' split) <;> simp

@[simp] theorem State.rejectMark_reply (p : Fin 4) (mark : Option Mark) : (s.rejectMark p mark).ops.reply = s.ops.reply := by
  unfold State.rejectMark
  dsimp only
  (repeat' split) <;> simp

@[simp] theorem State.codeError_reply (p : Fin 4) : (s.codeError p).ops.reply = s.ops.reply := by simp [State.codeError]

@[simp] theorem State.filterMark_reply (p : Fin 4) (m : Mark) : (s.filterMark p m).ops.reply = s.ops.reply := by
  unfold State.filterMark
  split <;> simp [State.acceptMark]

@[simp] theorem State.judgeSecond_reply (p : Fin 4) (count : Int) (tMark rawMark uRef : Nat) :
    (s.judgeSecond p count tMark rawMark uRef).ops.reply = s.ops.reply := by
  unfold State.judgeSecond
  dsimp only
  split <;> simp

@[simp] theorem pulseArrives_reply (p : Fin 4) (edge : Edge) (lines : BitVec 48) (error : Bool) :
    (pulseArrives p edge lines error s).ops.reply = s.ops.reply := by
  unfold pulseArrives State.decodeEdge
  dsimp only
  (repeat' split) <;> simp

@[simp] theorem State.badAnnouncement_reply (p : Fin 4) : (s.badAnnouncement p).ops.reply = s.ops.reply := by
  simp [State.badAnnouncement]

@[simp] theorem announcementTaken_reply (p : Fin 4) (chars : List Byte) (framing : Bool) :
    (announcementTaken p chars framing s).ops.reply = s.ops.reply := by
  unfold announcementTaken State.goodAnnouncement
  dsimp only
  (repeat' split) <;> simp

@[simp] theorem cutShort_reply (p : Fin 4) : (cutShort p s).ops.reply = s.ops.reply := by
  unfold cutShort
  split <;> simp

@[simp] theorem breakArrives_reply (p : Fin 4) : (breakArrives p s).ops.reply = s.ops.reply := by
  unfold breakArrives
  split <;> rfl

@[simp] theorem announceWindowEnds_reply (p : Fin 4) : (announceWindowEnds p s).ops.reply = s.ops.reply := by
  unfold announceWindowEnds
  split <;> rfl

@[simp] theorem silenceEnds_reply (p : Fin 4) : (silenceEnds p s).ops.reply = s.ops.reply := by
  unfold silenceEnds
  split <;> simp

@[simp] theorem State.resyncSelect_reply : s.resyncSelect.ops.reply = s.ops.reply := by
  unfold State.resyncSelect
  dsimp only
  (repeat' split) <;> simp

@[simp] theorem State.resyncTake_reply : s.resyncTake.ops.reply = s.ops.reply := by simp [State.resyncTake]

/-! ### The answering blocks -/

@[simp] theorem State.moveCursor_reply (p : Path) (i : Fin 64) : (s.moveCursor p i).ops.reply = s.ops.reply := by cases p <;> rfl

/-- A request with an addressing form keeps the reply buffer where its entry does: the resolution moves a cursor at most. -/
theorem addressed_reply {off : Nat} {p : Path} {b : List Byte} {act : Fin 64 → State → State × Answer}
    (hact : ∀ i u, (act i u).1.ops.reply = u.ops.reply) : (addressed off p b act s).1.ops.reply = s.ops.reply := by
  obtain ⟨c, h⟩ | ⟨i, wrap, s', ⟨rfl, -⟩ | rfl, h⟩ := addressed_cases off p b act s
  · rw [h, refuse_fst]
  · rw [h]; exact hact i s'
  · rw [h]; exact (hact i _).trans (s.moveCursor_reply p i)

/-- No answering block touches the reply buffer: the reply joins it once the block has answered (R153). -/
theorem Kind.block_reply (k : Kind) (p : Path) (instant : Nat) (b : List Byte) :
    (k.block p instant b s).1.ops.reply = s.ops.reply := by
  cases k with
  | echo | systemReset | retainedRead | readAlerts | closeInterval => rfl
  | readTime | traceReport => simp [Kind.block, readTimeBlock, traceReportBlock]
  | stamp | stampKeyed =>
    cases p with
    | lane l =>
      simp only [Kind.block, stampBlock, stampKeyedBlock]
      (repeat' split) <;> simp
    | ops => rfl
  | calibrate | laneStatus =>
    simp only [Kind.block, calibrateBlock, laneStatusBlock]
    (repeat' split) <;> simp
  | queryAuction => exact addressed_reply s fun _ _ => rfl
  | subscribe | unsubscribe | cancel | retire =>
    refine addressed_reply s fun i u => ?_
    (repeat' split) <;> rfl
  | reschedule =>
    refine addressed_reply s fun i u => ?_
    simp only [rescheduleScheduled, rescheduleCall, State.retime]
    (repeat' split) <;> rfl
  | extend =>
    refine addressed_reply s fun i u => ?_
    split
    · rfl
    · dsimp only
      split <;> simp
  | mapKey =>
    simp only [Kind.block, mapKeyBlock]
    split
    · rfl
    · refine addressed_reply s fun i u => ?_
      (repeat' split) <;> rfl
  | schedule | unmapKey =>
    simp only [Kind.block, scheduleBlock, unmapKeyBlock]
    (repeat' split) <;> rfl
  | setTimescale | setReference | armReference | setLane | setDeviceLimits | setAlertMask | retainedEnable | retainedWrite =>
    simp only [Kind.block, setTimescaleBlock, setReferenceBlock, armReferenceBlock, setLaneBlock, setDeviceLimitsBlock,
      setAlertMaskBlock, retainedEnableBlock, retainedWriteBlock, State.writeRetained]
    (repeat' split) <;> rfl
  | disableReference | readReference | setTrace | resync =>
    simp only [Kind.block, disableReferenceBlock, readReferenceBlock, setTraceBlock, resyncBlock]
    (repeat' split) <;> simp

end Sys2Proof.Machine
end

section
/-! PROOFS. READ_ALERTS and SET_ALERT_MASK (R160, R161): a request at the operations port, the reply held until it is read, and the
alert set against the mask. -/

namespace Sys2Proof.Machine

/-! ### Frames that end on a lane -/

theorem laneAnswer_reply (k : Kind) (l : Fin 16) (q : Request) (s : State) :
    (laneAnswer k k.block l q s).1.ops.reply = s.ops.reply := by
  obtain h | h | ⟨-, -, h⟩ := laneAnswer_cases k k.block l q s
  · rw [h, refuse_fst]
  · rw [h, refuse_fst]
  · rw [h, k.block_reply]

theorem headAnswer_reply (l : Fin 16) (q : Request) (s : State) : (headAnswer l q s).1.ops.reply = s.ops.reply := by
  obtain h | ⟨k, -, h⟩ := headAnswer_cases l q s
  · rw [h, refuse_fst]
  · rw [h, laneAnswer_reply]

section
variable {answer : Request → State → State × Answer} (hanswer : ∀ q u, (answer q u).1.ops.reply = u.ops.reply)
include hanswer

theorem takeHead_reply (l : Fin 16) (s : State) : (takeHead l answer s).ops.reply = s.ops.reply := by
  obtain h | ⟨q, rest, r, -, -, -, hr, h⟩ := takeHead_cases l answer s
  · rw [h]
  · rw [h, State.onLane_ops, hr, hanswer, State.onLane_ops]

/-- The end of a request frame on a lane keeps the port's reply buffer, where answering the request does. -/
theorem requestEnds_reply (l : Fin 16) (kind : Byte) (tag : Tag) (payload : List Byte) (s : State) :
    (requestEnds l kind tag payload answer s).ops.reply = s.ops.reply := by
  obtain h | ⟨latch, -, -, ⟨-, h⟩ | ⟨-, h⟩ | ⟨-, h⟩⟩ := requestEnds_cases l kind tag payload answer s
  · rw [h]
  · rw [h, State.onLane_ops]
  · rw [h, State.onLane_ops]
  · rw [h, takeHead_reply hanswer, State.onLane_ops]

end

theorem echoEnds_reply (l : Fin 16) (tag : Tag) (payload : List Byte) (s : State) :
    (echoEnds l tag payload s).ops.reply = s.ops.reply := by
  unfold echoEnds
  obtain h | ⟨latch, -, -, ⟨-, h⟩ | ⟨-, h⟩⟩ := laneFrame_cases l payload
    (fun latch s => (s.onLane l fun n => { n with rxLatch := none }).classifyEcho l latch tag payload) s
  · rw [h]
  · rw [h, State.onLane_ops]
  · rw [h, State.classifyEcho_reply, State.onLane_ops]

theorem frameEnds_reply (l : Fin 16) (bytes : List Byte) (lineError : Bool) (s : State) :
    (frameEnds l bytes lineError s).ops.reply = s.ops.reply := by
  unfold frameEnds
  split
  · split
    · rfl
    · split
      · exact echoEnds_reply l _ _ s
      · exact requestEnds_reply (headAnswer_reply l) l _ _ _ s
  · rfl

theorem headLeaves_reply (l : Fin 16) (s : State) : (headLeaves l s).ops.reply = s.ops.reply := by
  unfold headLeaves
  split
  · rfl
  · split
    · dsimp only
      split
      · rw [takeHead_reply (headAnswer_reply l), State.onLane_ops]
      · rfl
    · rfl

/-! ### WRITE transactions while a reply is held (R152) -/

/-- What a WRITE in progress leaves that is refused BUSY at its release. -/
theorem opsWrite_busy {payload : List Byte} {s : State} {r : Reply} (hspi : s.ops.spi = some 165)
    (hlen : payload.length ≤ 248) (hr : s.ops.reply = some r) (act : State → State) :
    opsWrite payload act s = { s with ops := { s.ops with lastWrite := .busy, spi := none } } := by
  obtain ⟨hne, -⟩ | ⟨hlong, -⟩ | ⟨-, h⟩ | ⟨-, hnone, -⟩ := opsWrite_cases payload act s
  · exact absurd hspi hne
  · omega
  · exact h
  · rw [hr] at hnone; cases hnone

theorem opsWrite_keeps_held {s : State} {r : Reply} (hr : s.ops.reply = some r) (payload : List Byte) (act : State → State) :
    (opsWrite payload act s).ops.reply = some r := by
  obtain ⟨-, h⟩ | ⟨-, h⟩ | ⟨-, h⟩ | ⟨-, hnone, -⟩ := opsWrite_cases payload act s
  · rw [h, hr]
  · rw [h]; exact hr
  · rw [h]; exact hr
  · rw [hr] at hnone; cases hnone

theorem badFormEnds_keeps_held {s : State} {r : Reply} (hr : s.ops.reply = some r) (src : Source) (kind : Byte) :
    (badFormEnds src kind s).ops.reply = some r := by
  cases src with
  | lane l tag payload =>
    simp only [badFormEnds]
    split
    · exact hr
    · rw [requestEnds_reply (fun _ _ => rfl), hr]
  | ops tag payload =>
    simp only [badFormEnds]
    split
    · exact hr
    · exact opsWrite_keeps_held hr payload _

theorem takeRequest_keeps_held {s : State} {r : Reply} (hr : s.ops.reply = some r) (k : Kind) (src : Source) :
    (takeRequest k src k.block s).ops.reply = some r := by
  cases src with
  | lane l tag payload => exact (requestEnds_reply (laneAnswer_reply k l) l _ _ _ s).trans hr
  | ops tag payload => exact opsWrite_keeps_held hr payload _

theorem writeDiscarded_reply (bytes : List Byte) (s : State) : (writeDiscarded bytes s).ops.reply = s.ops.reply := by
  unfold writeDiscarded
  (repeat' split) <;> rfl

theorem writeBusy_reply (bytes : List Byte) (s : State) : (writeBusy bytes s).ops.reply = s.ops.reply := by
  unfold writeBusy
  (repeat' split) <;> rfl

/-- OPS_WRITE_BUSY of a whole frame, while a WRITE is in progress and a reply is held (R152). -/
theorem writeBusy_held {bytes : List Byte} {f : Frame} {s : State} {r : Reply} (hf : parseFrame bytes = some f)
    (hspi : s.ops.spi = some 165) (hr : s.ops.reply = some r) :
    writeBusy bytes s = { s with ops := { s.ops with lastWrite := .busy, spi := none } } := by
  simp only [writeBusy, hf, hr, hspi, writeByte, if_true, OpsPort.endWrite]

/-! ### What leaves a held reply as it is (R152, R154) -/

/-- What a request command is: its taking, answered by the block of its kind, or a SYSTEM_RESET, which restarts where it comes from
the port (R71 to R73, R152, R153, R167). -/
theorem exec_request {c : Instr} {src : Source} {k : Kind} (h : c.request = some (src, k)) (s : State) :
    exec c s = s.atEvent c.dt (takeRequest k src k.block) ∨
    c.restarts = src.isOps ∧ exec c s = s.atEvent c.dt (systemResetTaken src) := by
  cases c with
  | echo dt port tag payload =>
    cases port <;> simp only [Instr.request, reduceCtorEq, Option.some.injEq, Prod.mk.injEq] at h
    obtain ⟨rfl, rfl⟩ := h
    exact .inl rfl
  | systemReset dt src' =>
    simp only [Instr.request, Option.some.injEq, Prod.mk.injEq] at h
    obtain ⟨rfl, rfl⟩ := h
    exact .inr ⟨rfl, rfl⟩
  | _ =>
    simp only [Instr.request, reduceCtorEq, Option.some.injEq, Prod.mk.injEq] at h
    all_goals
      obtain ⟨rfl, rfl⟩ := h
      exact .inl rfl

/-- Every request at the port, SYSTEM_RESET with the others, is a WRITE transaction that carries its frame (R152). -/
theorem exec_request_at_port {c : Instr} {k : Kind} {tag : Tag} {payload : List Byte}
    (h : c.request = some (.ops tag payload, k)) (s : State) :
    ∃ act, exec c s = s.atEvent c.dt (opsWrite payload act) := by
  obtain he | ⟨-, he⟩ := exec_request h s
  · exact ⟨fun u => State.holdReply k.byte tag (opsAnswer k payload k.block u), he⟩
  · exact ⟨fun u => if formOk .ops Kind.systemReset.byte payload.length then u.beginRun .resetRequest
      else State.holdReply Kind.systemReset.byte tag (refuse .badForm u), he⟩

/-- A request keeps a held reply, unless it is the SYSTEM_RESET that restarts the part. -/
theorem exec_request_keeps_held {c : Instr} {src : Source} {k : Kind} {s t : State} {r : Reply} (hq : c.request = some (src, k))
    (hc : c.restarts = false) (hr : s.ops.reply = some r) (h : exec c s = .next t) : t.ops.reply = some r := by
  obtain he | ⟨hops, he⟩ := exec_request hq s
  · rw [he] at h
    exact atEvent_keeps (P := fun u => u.ops.reply = some r) hr (takeRequest_keeps_held (s := s.elapse c.dt) hr k src) h
  · rw [he] at h
    cases src with
    | lane l tag payload => exact (atEvent_reply (requestEnds_reply (laneAnswer_reply .systemReset l) l _ tag payload) h).trans hr
    | ops tag payload => rw [hc] at hops; cases hops

/-- Only the release of a READ after the reply's last byte, and a restart, take a held reply out of the buffer (R154). -/
theorem exec_keeps_held {c : Instr} {s t : State} {r : Reply} (hc : c.restarts = false)
    (hread : ∀ dt part, c ≠ .opsRead dt part) (hr : s.ops.reply = some r) (h : exec c s = .next t) : t.ops.reply = some r := by
  cases hq : c.request with
  | some q => exact exec_request_keeps_held hq hc hr h
  | none =>
    rw [← hr]
    cases c with
    | pulseEdge dt p edge lines error => exact atEvent_reply (pulseArrives_reply · p edge lines error) h
    | announcement dt p chars framing => exact atEvent_reply (announcementTaken_reply · p chars framing) h
    | announcementCutShort dt p => exact atEvent_reply (cutShort_reply · p) h
    | announcementBreak dt p => exact atEvent_reply (breakArrives_reply · p) h
    | announceWindowExpiry dt p => exact atEvent_reply (announceWindowEnds_reply · p) h
    | silenceExpiry dt p => exact atEvent_reply (silenceEnds_reply · p) h
    | slewEnd dt => exact atEvent_reply (fun _ => rfl) h
    | traceSample dt =>
      refine atEvent_reply
        (act := fun u => if u.trace.nextSample ≤ u.now then u.sampleAt u.trace.nextSample else u) (fun u => ?_) h
      split
      · exact u.sampleAt_reply _
      · rfl
    | linkUp dt l => exact atEvent_reply (linkComesUp_reply · l) h
    | linkDown dt l => exact atEvent_reply (linkGoesDown_reply · l) h
    | startDelimiter dt l => exact atEvent_reply (delimiterArrives_reply · l) h
    | frameEnd dt l bytes lineError => exact atEvent_reply (frameEnds_reply l bytes lineError) h
    | unknownKind dt src kind =>
      have hform := badFormEnds_keeps_held (s := s.elapse dt) hr src kind
      exact atEvent_keeps (P := fun u => u.ops.reply = s.ops.reply) rfl (hform.trans hr.symm) h
    | frameLeaves dt l => exact atEvent_reply (headLeaves_reply l) h
    | probeDeparture dt l => exact atEvent_reply (probeLeavesPort_reply · l) h
    | probeIntervalExpiry dt l => exact atEvent_reply (intervalExpiry_reply · l) h
    | echoTimeout dt l => exact atEvent_reply (echoTimerExpires_reply · l) h
    | echo dt port tag payload =>
      cases port with
      | lane l => exact atEvent_reply (echoEnds_reply l tag payload) h
      | ops => cases hq
    | openExpiry dt i => exact atEvent_reply (fun u => u.onDue_reply i fun c v => by split <;> simp) h
    | windowExpiry dt i => exact atEvent_reply (fun u => u.onDue_reply i fun c v => by split <;> simp) h
    | endExpiry dt i => exact atEvent_reply (fun u => u.onDue_reply i fun c v => by split <;> simp) h
    | settleExpiry dt i => exact atEvent_reply (fun u => u.onDue_reply i fun c v => by split <;> simp) h
    | opsWriteDiscarded dt bytes => exact atEvent_reply (writeDiscarded_reply bytes) h
    | opsWriteBusy dt bytes => exact atEvent_reply (writeBusy_reply bytes) h
    | opsRead dt part => exact absurd rfl (hread dt part)
    | powerOn | resetPinAsserted | runStart | powerLoss | backupSupplyLoss => cases hc
    | _ => cases hq

/-! ### The alert set and the mask (R158 to R161) -/

/-- A set holds an alert once it has been raised, whatever it held before (R158). -/
theorem hasAlert_addAlert_self (a : Alert) (set : AlertSet) : hasAlert a (addAlert a set) = true := by
  have hflag : a.flag.getLsbD a.index = true := by cases a <;> rfl
  simp [hasAlert, addAlert, hflag]

/-- The line of a running part is asserted by any flag that stands in the set and in the mask (R159). -/
theorem State.alertLine_of_common {s : State} (hp : s.power = .running) {a : Alert} (hset : hasAlert a s.ops.alerts = true)
    (hmask : hasAlert a s.ops.mask = true) : s.alertLine = true := by
  have hne : s.ops.alerts &&& s.ops.mask ≠ 0 := by
    intro h0
    have hbit : (s.ops.alerts &&& s.ops.mask).getLsbD a.index = true := by
      rw [BitVec.getLsbD_and]
      exact Bool.and_eq_true_iff.mpr ⟨hset, hmask⟩
    rw [h0] at hbit
    simp at hbit
  simpa [State.alertLine, hp] using hne

/-- With an empty set the line is released (R159). -/
theorem State.alertLine_of_empty {s : State} (h : s.ops.alerts = 0) : s.alertLine = false := by
  unfold State.alertLine
  split
  · simp [h]
  · rfl
  · rfl

theorem Alert.index_lt (a : Alert) : a.index < 13 := by cases a <;> decide

/-- The mask that a SET_ALERT_MASK carries names the alerts whose bits are set in its field (11.1, R161). -/
theorem hasAlert_ofNat (a : Alert) (v : Nat) : hasAlert a (BitVec.ofNat 13 v) = v.testBit a.index := by
  rw [hasAlert, BitVec.getLsbD_ofNat, decide_eq_true a.index_lt, Bool.true_and]

/-! ### Transactions at the port (R151 to R153) -/

/-- A WRITE in progress that carries a whole frame to an EMPTY port hands the frame on (R152). -/
theorem opsWrite_taken {payload : List Byte} {s : State} (hspi : s.ops.spi = some 165) (hlen : payload.length ≤ 248)
    (hempty : s.ops.reply = none) (act : State → State) :
    opsWrite payload act s = act { s with ops := { s.ops with lastWrite := .taken, spi := none } } := by
  obtain ⟨hne, -⟩ | ⟨hlong, -⟩ | ⟨hheld, -⟩ | ⟨-, -, -, h⟩ := opsWrite_cases payload act s
  · exact absurd hspi hne
  · omega
  · rw [hempty] at hheld; cases hheld
  · exact h

/-- A request of good form that is released in a WRITE at an EMPTY port: its block answers, and the reply joins the buffer (R153). -/
theorem takeRequest_at_port {k : Kind} {tag : Tag} {payload : List Byte} {s : State} (hspi : s.ops.spi = some 165)
    (hempty : s.ops.reply = none) (hform : k.allows .ops payload.length = true) (hport : k.laneOnly = false) (blk : Block) :
    takeRequest k (.ops tag payload) blk s =
      State.holdReply k.byte tag
        (blk .ops s.now payload { s with ops := { s.ops with lastWrite := .taken, spi := none } }) := by
  have htaken : s.taken k (.ops tag payload) = some
      { path := .ops, instant := s.now, tag, payload, state := { s with ops := { s.ops with lastWrite := .taken, spi := none } } } :=
    if_pos ⟨hspi, hempty, hform, hport⟩
  rw [takeRequest_of_taken htaken]
  rfl

/-- Once the first byte of a WRITE has come to a running part that holds a reply, it has a WRITE in progress and the reply still
(R151). -/
theorem exec_opsRead_begins_write {s t : State} {r : Reply} {dt : Nat} (h : exec (.opsRead dt (.begins 165)) s = .next t)
    (hp : s.power = .running) (hr : s.ops.reply = some r) :
    t.power = .running ∧ t.ops.spi = some 165 ∧ t.ops.reply = some r := by
  have hbegun : exec (.opsRead dt (.begins 165)) s =
      .next { s.elapse dt with ops := s.ops.beginTransaction (s.elapse dt).statusByte 165 } := atEvent_running hp dt _
  rw [hbegun] at h
  cases h
  exact ⟨hp, rfl, hr⟩

/-- The state after a WRITE in progress has been refused BUSY at its release. -/
def State.refusedBusy (dt : Nat) (s : State) : State :=
  { s.elapse dt with ops := { s.ops with lastWrite := .busy, spi := none } }

section
variable {s : State} {r : Reply} (hp : s.power = .running) (hspi : s.ops.spi = some 165) (hr : s.ops.reply = some r)
include hp hspi hr

theorem exec_opsWriteBusy_held (dt : Nat) {bytes : List Byte} {f : Frame} (hf : parseFrame bytes = some f) :
    exec (.opsWriteBusy dt bytes) s = .next (s.refusedBusy dt) :=
  (atEvent_running hp dt _).trans (congrArg _ (writeBusy_held (s := s.elapse dt) hf hspi hr))

theorem exec_request_held {c : Instr} {k : Kind} {tag : Tag} {payload : List Byte} (hq : c.request = some (.ops tag payload, k))
    (hlen : payload.length ≤ 248) : exec c s = .next (s.refusedBusy c.dt) := by
  obtain ⟨act, he⟩ := exec_request_at_port hq s
  rw [he, atEvent_running hp, opsWrite_busy (s := s.elapse c.dt) hspi hlen hr]
  rfl

theorem exec_unknownKind_held (dt : Nat) {kind : Byte} {tag : Tag} {payload : List Byte}
    (hform : formOk .ops kind payload.length = false) (hlen : payload.length ≤ 248) :
    exec (.unknownKind dt (.ops tag payload) kind) s = .next (s.refusedBusy dt) := by
  have hbad : badFormEnds (.ops tag payload) kind (s.elapse dt) = s.refusedBusy dt := by
    simp only [badFormEnds, hform, Bool.false_eq_true, if_false]
    exact opsWrite_busy (s := s.elapse dt) hspi hlen hr _
  exact (atEvent_running hp dt _).trans (congrArg _ hbad)

end

/-- The release of a READ takes a held reply out of the buffer after its last byte, and else leaves it (R154). -/
theorem endRead_held {o : OpsPort} {r : Reply} (hr : o.reply = some r) (part : OpsTransfer) :
    (o.endRead part).reply = some r ∨
    (o.endRead part).reply = none ∧ (part = .complete ∨ ∃ n, part = .released n ∧ r.bytes.length ≤ n) := by
  obtain h | ⟨h, hpart | ⟨r', n, hr', hpart, hn⟩⟩ := endRead_cases part o
  · exact .inl (h.trans hr)
  · exact .inr ⟨h, .inl hpart⟩
  · rw [hr] at hr'
    cases hr'
    exact .inr ⟨h, .inr ⟨n, hpart, hn⟩⟩

/-- What OPS_READ can do to the reply buffer: nothing, or what the release of a READ does (R151, R154). -/
theorem opsTransfer_reply_cases (part : OpsTransfer) (s : State) :
    (opsTransfer part s).ops.reply = s.ops.reply ∨ (opsTransfer part s).ops.reply = (s.ops.endRead part).reply := by
  cases part with
  | begins first => exact .inl rfl
  | complete | released n =>
    unfold opsTransfer
    dsimp only
    split
    · exact .inr rfl
    · exact .inl rfl

/-! ### SET_ALERT_MASK (R161) -/

/-- A mask above bit 12 names no flag, and is refused (R161, R168). -/
theorem setAlertMaskBlock_of_range {b : List Byte} (h : 8192 ≤ field 0 2 b) (p : Path) (instant : Nat) (s : State) :
    setAlertMaskBlock p instant b s = refuse .range s := if_pos h

/-- A mask within bit 12 replaces the one held, and is returned (R161). -/
theorem setAlertMaskBlock_of_lt {b : List Byte} (h : field 0 2 b < 8192) (p : Path) (instant : Nat) (s : State) :
    setAlertMaskBlock p instant b s =
      ({ s with ops := { s.ops with mask := BitVec.ofNat 13 (field 0 2 b) } }, .done (.mask (BitVec.ofNat 13 (field 0 2 b)))) :=
  if_neg (by omega)

/-! ### What the statement says -/

/-- A held reply stays until it is read, whatever command without a restart comes (R152, R154). -/
theorem held_reply_stays_until_read {c : Instr} {s t : State} {r : Reply} (hc : c.restarts = false) (hr : s.ops.reply = some r)
    (h : exec c s = .next t) :
    t.ops.reply = some r ∨
      t.ops.reply = none ∧ ∃ dt, c = .opsRead dt .complete ∨ ∃ n, c = .opsRead dt (.released n) ∧ r.bytes.length ≤ n := by
  by_cases hread : ∃ dt part, c = .opsRead dt part
  · obtain ⟨dt, part, rfl⟩ := hread
    refine atEvent_keeps (P := fun u => u.ops.reply = some r ∨ u.ops.reply = none ∧ _) (.inl hr) ?_ h
    obtain h | h := opsTransfer_reply_cases part (s.elapse dt)
    · exact .inl (h.trans hr)
    · obtain hkept | ⟨hgone, rfl | ⟨n, rfl, hn⟩⟩ := endRead_held (o := s.ops) hr part
      · exact .inl (h.trans hkept)
      · exact .inr ⟨h.trans hgone, dt, .inl rfl⟩
      · exact .inr ⟨h.trans hgone, dt, .inr ⟨n, rfl, hn⟩⟩
  · exact .inl (exec_keeps_held hc (fun dt part e => hread ⟨dt, part, e⟩) hr h)

section
variable {s : State} (hp : s.power = .running) (hspi : s.ops.spi = some 165) (hempty : s.ops.reply = none)
include hp hspi hempty

/-- READ_ALERTS at an EMPTY port: the set joins the reply as it stands, and is emptied at the same event (R160). -/
theorem exec_readAlerts (dt : Nat) (tag : Tag) :
    exec (.readAlerts dt (.ops tag [])) s = .next { s.elapse dt with ops := { s.ops with
      alerts := 0, lastWrite := .taken, spi := none
      reply := some { kind := Kind.readAlerts.byte, tag, code := .done, ind := .clear, body := .alerts s.ops.alerts } } } :=
  (atEvent_running hp dt _).trans
    (congrArg _ (takeRequest_at_port (k := .readAlerts) (s := s.elapse dt) hspi hempty rfl rfl readAlertsBlock))

/-- SET_ALERT_MASK at an EMPTY port: its block answers what the two bytes name (R161). -/
theorem exec_setAlertMask (dt : Nat) (tag : Tag) {payload : List Byte} (hlen : payload.length = 2) :
    exec (.setAlertMask dt (.ops tag payload)) s = .next (State.holdReply Kind.setAlertMask.byte tag
      (setAlertMaskBlock .ops (s.elapse dt).now payload
        { s.elapse dt with ops := { s.ops with lastWrite := .taken, spi := none } })) :=
  (atEvent_running hp dt _).trans
    (congrArg _ (takeRequest_at_port (k := .setAlertMask) (s := s.elapse dt) hspi hempty (beq_iff_eq.mpr hlen) rfl
      setAlertMaskBlock))

/-- SYSTEM_RESET at an EMPTY port begins a run (R167). -/
theorem exec_systemReset (dt : Nat) (tag : Tag) :
    exec (.systemReset dt (.ops tag [])) s = .next (State.beginRun .resetRequest
      { s.elapse dt with ops := { s.ops with lastWrite := .taken, spi := none } }) := by
  have hform : formOk .ops Kind.systemReset.byte ([] : List Byte).length = true := rfl
  have htaken : systemResetTaken (.ops tag []) (s.elapse dt) = State.beginRun .resetRequest
      { s.elapse dt with ops := { s.ops with lastWrite := .taken, spi := none } } := by
    simp only [systemResetTaken, systemResetAtOps, hform, if_true]
    exact opsWrite_taken (s := s.elapse dt) hspi (Nat.zero_le _) hempty _
  exact (atEvent_running hp dt _).trans (congrArg _ htaken)

end

/-- Settles O55: READ_ALERTS and the refusals while its reply is held, the held reply, SET_ALERT_MASK in and out of range, and the two
ways a run begins. -/
theorem alertsAreReadOnceAndMasked : Obligations.AlertsAreReadOnceAndMasked := by
  refine ⟨fun dt tag s hp hspi hempty => ⟨exec_readAlerts hp hspi hempty dt tag, State.alertLine_of_empty rfl, ?raised, ?refused⟩,
    fun c s t r => held_reply_stays_until_read,
    fun dt tag payload s hp hspi hempty hlen => ⟨?outOfRange, ?inRange⟩, ?runStart, ?reset⟩
  case raised =>
    exact fun a => ⟨hasAlert_addAlert_self a _, rfl, hasAlert_addAlert_self a _,
      fun hmask => State.alertLine_of_common hp (hasAlert_addAlert_self a _) hmask⟩
  case refused =>
    intro dt₁ dt₂ w hw
    obtain ⟨hpw, hspiw, hrw⟩ := exec_opsRead_begins_write hw (by exact hp) (by rfl)
    exact ⟨hrw, fun bytes f hf => exec_opsWriteBusy_held hpw hspiw hrw dt₂ hf,
      fun c k tag' payload hq hdt hlen => hdt ▸ exec_request_held hpw hspiw hrw hq hlen,
      fun kind tag' payload hform hlen => exec_unknownKind_held hpw hspiw hrw dt₂ hform hlen⟩
  case outOfRange =>
    intro hv
    rw [exec_setAlertMask hp hspi hempty dt tag hlen, setAlertMaskBlock_of_range hv]
    rfl
  case inRange =>
    intro hv
    refine ⟨BitVec.ofNat 13 (field 0 2 payload), fun a => hasAlert_ofNat a _, ?_,
      fun a hset hmask => State.alertLine_of_common (by exact hp) hset hmask⟩
    rw [exec_setAlertMask hp hspi hempty dt tag hlen, setAlertMaskBlock_of_lt hv]
    rfl
  case runStart =>
    intro cause s t hp h
    simp only [exec, execRunStart, hp] at h
    cases h
    rfl
  case reset =>
    intro dt tag s t hp hspi hempty h
    rw [exec_systemReset hp hspi hempty] at h
    cases h
    rfl

end Sys2Proof.Machine
end

section
/-! PROOFS. One step and one command: the front of the queue, the clock, and that every command answers a next state with the queue
as it was. -/

namespace Sys2Proof.Machine

/-! ### Commands as events (R162) -/

/-- Every command but those of power and reset is an event of its own advance of the raw count. -/
theorem exec_eq_atEvent {c : Instr} (hc : c.isPower = false) :
    ∃ act, ∀ s, exec c s = s.atEvent c.dt act := by
  cases c with
  | powerOn | resetPinAsserted | runStart | powerLoss | backupSupplyLoss => cases hc
  | traceSample dt =>
    exact ⟨fun u => if u.trace.nextSample ≤ u.now then u.sampleAt u.trace.nextSample else u, fun _ => rfl⟩
  | _ => exact ⟨_, fun _ => rfl⟩

/-- A part that is held or has no power keeps its state at every event (R162). -/
theorem exec_still {c : Instr} {s : State} (hc : c.isPower = false) (h : s.power ≠ .running) : exec c s = .next s := by
  obtain ⟨act, he⟩ := exec_eq_atEvent hc
  rw [he, atEvent_still h]

theorem step_of_nil {s : State} (h : s.pending = []) : step s = s.atEvent 1 id := by simp only [step, h]

theorem step_of_cons {s : State} {c : Instr} {rest : List Instr} (h : s.pending = c :: rest) :
    step s = exec c { s with pending := rest } := by simp only [step, h]

/-- Settles O1. -/
theorem stepRunsTheFrontCommand : Obligations.StepRunsTheFrontCommand := by
  intro c rest s h
  exact step_of_cons h

/-- Settles O2: the clock alone on an empty queue, and no event of a part that does not run. -/
theorem eventsNeedARunningPart : Obligations.EventsNeedARunningPart := by
  refine ⟨fun s hq => ⟨fun hp => ?_, fun hp => ?_⟩, fun c s hc hp => ?_⟩
  · rw [step_of_nil hq]
    exact atEvent_running hp 1 id
  · rw [step_of_nil hq]
    exact atEvent_still hp 1 id
  · have hne : s.power ≠ .running := by
      obtain ⟨cause, h⟩ | h := hp <;> rw [h] <;> exact fun h => nomatch h
    refine ⟨exec_still hc hne, ?_⟩
    obtain ⟨cause, h⟩ | h := hp <;> simp only [State.alertLine, h]

end Sys2Proof.Machine
end

section
/-! PROOFS. What the lanes, the traceability unit, the auction table and the operations port can do to the state between two commands of
the timescale: the relation `Calm`, made of the steps of a lane's record, of a call's record and of the port, and what each of them keeps.
Every law of the lanes and the calls is then a fact about these few steps. -/

namespace Sys2Proof.Machine

/-! ### Lanes -/

/-- A frame that is neither a reply nor a CLOSE_NOTICE. -/
def TxFrame.plain : TxFrame → Bool
  | .phaseNotice _ | .probe _ => true
  | .reply _ | .closeNotice _ => false

/-- A lane that has nothing in flight (R66), its request queue aside. -/
def Lane.idle (n : Lane) : Prop :=
  n.tx = [] ∧ n.window = [] ∧ n.probe = none ∧ n.intervalDue = none ∧ n.echoDue = none ∧ n.rxLatch = none

/-- A change of a lane's record that leaves its link, its requests and its replies alone, and its shares and window within their
sizes. -/
structure Lane.Holds (n n' : Lane) : Prop where
  up : n'.up = n.up
  queue : n'.queue = n.queue
  replies : n'.replies = n.replies
  notices : n.notices ≤ 8 → n'.notices ≤ 8
  window : n.window.length ≤ 8 → n'.window.length ≤ 8
  idle : n.up = false → n.idle → n'.idle
  tx : ∀ f ∈ n'.tx, f ∈ n.tx ∨ f.plain = true

/-- Such a change that issues no stamp. -/
structure Lane.Keeps (n n' : Lane) : Prop extends Lane.Holds n n' where
  sequence : n'.sequence = n.sequence
  lastStamp : n'.lastStamp = n.lastStamp

theorem Lane.Keeps.refl (n : Lane) : n.Keeps n :=
  ⟨⟨rfl, rfl, rfl, id, id, fun _ h => h, fun _ h => .inl h⟩, rfl, rfl⟩

/-- A change of fields that neither the shares nor the link depend on. -/
theorem Lane.Keeps.of_eq {n n' : Lane} (hup : n'.up = n.up) (hq : n'.queue = n.queue) (htx : n'.tx = n.tx)
    (hs : n'.sequence = n.sequence) (hl : n'.lastStamp = n.lastStamp) (hw : n.window.length ≤ 8 → n'.window.length ≤ 8)
    (hi : n.up = false → n.idle → n'.idle) : n.Keeps n' where
  up := hup
  queue := hq
  replies := by simp [Lane.replies, htx]
  notices := by simp [Lane.notices, htx]
  window := hw
  idle := hi
  tx := fun f hf => .inl (htx ▸ hf)
  sequence := hs
  lastStamp := hl

/-- The same, of a lane that is UP. -/
theorem Lane.Keeps.of_up {n n' : Lane} (h : n.up = true) (hup : n'.up = n.up) (hq : n'.queue = n.queue) (htx : n'.tx = n.tx)
    (hs : n'.sequence = n.sequence) (hl : n'.lastStamp = n.lastStamp) (hw : n.window.length ≤ 8 → n'.window.length ≤ 8) :
    n.Keeps n' :=
  .of_eq hup hq htx hs hl hw fun hdown => Bool.noConfusion (h.symm.trans hdown)

@[simp] theorem Lane.join_replies (f : TxFrame) (n : Lane) : (n.join f).replies = n.replies + if f.isReply then 1 else 0 := by
  simp only [Lane.replies, Lane.join, List.countP_append, List.countP_singleton]

@[simp] theorem Lane.join_notices (f : TxFrame) (n : Lane) : (n.join f).notices = n.notices + if f.isReply then 0 else 1 := by
  simp only [Lane.notices, Lane.join, List.countP_append, List.countP_singleton]
  cases f.isReply <;> rfl

theorem TxFrame.isReply_of_plain {f : TxFrame} (h : f.plain = true) : f.isReply = false := by
  cases f <;> simp_all [TxFrame.plain, TxFrame.isReply]

/-- A plain frame joins the notice share of an UP lane where it has a free entry. -/
theorem Lane.Keeps.join {n : Lane} {f : TxFrame} (hf : f.plain = true) (hup : n.up = true) (hn : n.notices < 8) :
    n.Keeps (n.join f) where
  up := rfl
  queue := rfl
  replies := by simp [TxFrame.isReply_of_plain hf]
  notices := fun _ => by simpa [TxFrame.isReply_of_plain hf] using hn
  window := id
  idle := fun h => by simp [hup] at h
  tx := fun g hg => by
    rcases List.mem_append.1 hg with hg | hg
    · exact .inl hg
    · rw [List.mem_singleton.1 hg]
      exact .inr hf
  sequence := rfl
  lastStamp := rfl

theorem Lane.Keeps.placeNotice {f : TxFrame} (hf : f.plain = true) (n : Lane) : n.Keeps (n.placeNotice f) := by
  obtain ⟨hup, hn, h⟩ | ⟨-, -, h⟩ | ⟨-, h⟩ := placeNotice_cases f n <;> rw [h]
  · exact .join hf hup hn
  · exact .of_eq rfl rfl rfl rfl rfl id fun _ h => h
  · exact .refl n

theorem Lane.Keeps.placeProbe {n : Lane} (hup : n.up = true) (h : n.canProbe = true) : n.Keeps n.placeProbe := by
  have hn : n.notices < 8 := of_decide_eq_true (Bool.and_eq_true_iff.1 h).2
  obtain ⟨h1, h2, h3, h4, h5, h6, h7⟩ := (Lane.Keeps.join (f := .probe n.tagCounter) rfl hup hn).toHolds
  exact ⟨⟨h1, h2, h3, h4, h5, fun h => by simp [hup] at h, h7⟩, rfl, rfl⟩

theorem Lane.Keeps.startInterval {n : Lane} (raw : Nat) : n.Keeps (n.startInterval raw) :=
  .of_eq rfl rfl rfl rfl rfl id fun hup ⟨h1, h2, h3, _, h5, h6⟩ => ⟨h1, h2, h3, by simp [Lane.startInterval, hup], h5, h6⟩

theorem Lane.Keeps.expireProbe (p : Probe) (n : Lane) : n.Keeps (n.expireProbe p) :=
  .of_eq rfl rfl rfl rfl rfl id fun _ ⟨h1, h2, _, h4, _, h6⟩ => ⟨h1, h2, rfl, h4, rfl, h6⟩

theorem Lane.Keeps.abandonProbe (n : Lane) : n.Keeps n.abandonProbe := by
  unfold Lane.abandonProbe
  split
  · exact .expireProbe _ n
  · exact .refl n
  · exact .refl n

theorem agedWindow_length_le (now limit : Nat) (w : List Sample) : (agedWindow now limit w).length ≤ w.length :=
  List.length_filter_le _ _

theorem Lane.Keeps.age (now cmax : Nat) (n : Lane) : n.Keeps (n.age now cmax) :=
  .of_eq rfl rfl rfl rfl rfl (fun h => (agedWindow_length_le _ _ _).trans h) fun _ ⟨h1, h2, h3⟩ =>
    ⟨h1, by simp [Lane.age, Lane.withWindow, agedWindow, h2], h3⟩

/-! ### Calls -/

/-- What an event does to the record of a call: one case for each stage of 7.1 and for each change that makes none. -/
inductive Call.Step (inService : Bool) (c : Call) : Call → Prop
  | opens (h : c.phase = .scheduled) (hs : inService = true) : Call.Step inService c { c with phase := .call }
  | cancels (cause : CancelCause) (h : c.phase.due = true) : Call.Step inService c (c.cancelledBy cause)
  | windows (draw : BitVec 32) (h : c.phase = .call) : Call.Step inService c (c.windowed draw)
  | settles (dg : Grade) (h : c.phase.endPending = true) (hc : c.closes dg = true) : Call.Step inService c (c.settled dg)
  | holds (h : c.phase.endPending = true) (hc : c.holdsUsed < c.holdMax) : Call.Step inService c c.heldOn
  | uncrosses (h : c.phase = .settling) : Call.Step inService c { c with phase := .uncrossDue }
  | retimes (q : TimeChange) (arrival : Nat)
      (h : c.phase = .scheduled ∨ c.phase = .call ∧ q.tSched.all (c.schedOk arrival) = true) :
      Call.Step inService c (c.retimed q)
  | extendsInCall (applied : Nat) (h : c.phase = .call) (hc : c.extUsed < c.extCap) :
      Call.Step inService c (c.extendedInCall applied)
  | extendsInWindow (arrival applied : Nat) (draw : BitVec 32) (h : c.phase = .window ∨ c.phase = .extended)
      (hc : c.extUsed < c.extCap) : Call.Step inService c (c.extendedInWindow arrival applied draw)

/-- A change of a record that makes no stage (R115): a stamp counted against a record brought up to it, or a change of its notice
set. -/
inductive Call.Note (c : Call) : Call → Prop
  | counts (t : Nat) (hcall : c.phase = .call → t < c.tSched) (hend : c.endReached t = false) : Call.Note c (c.counted t)
  | notifies (set : LaneSet) : Call.Note c { c with notices := set }

/-- The record of a call just scheduled: its counts are 0 and it has no end. -/
def Call.fresh (c : Call) : Prop := ∃ (q : ScheduleFields) (required : Required), c = q.call required

/-! ### The steps of a calm stretch -/

/-- What happens to the state while no reference, no mark, no supply and no client's right changes it: a chain of the steps below. -/
inductive Calm : State → State → Prop
  | refl (s : State) : Calm s s
  | trans {s t u : State} (h : Calm s t) (h' : Calm t u) : Calm s u
  | lanes {s : State} (ls : Vector Lane 16) (h : ∀ l : Fin 16, s.lanes[l].Keeps ls[l]) : Calm s { s with lanes := ls }
  | trace {s : State} (tr : Trace) (h : s.inService = false → tr.dg = s.trace.dg ∨ tr.dg = .untraced) :
      Calm s { s with trace := tr }
  | port {s : State} (o : OpsPort) (hl : o.limits = s.ops.limits) (hr : o.reply = s.ops.reply)
      (ha : ∀ a, hasAlert a s.ops.alerts = true → hasAlert a o.alerts = true) : Calm s { s with ops := o }
  | retained {s : State} (r : Retained) (hr : r.savedRate = s.retained.savedRate) (hv : r.valid = s.retained.valid) :
      Calm s { s with retained := r }
  | draws (s : State) : Calm s s.countDraw
  | stage {s : State} {i : Fin 64} {c c' : Call} (h : s.slots[i] = some c) (hc : c.Step s.inService c') : Calm s (s.commit i c')
  | note {s : State} {i : Fin 64} {c c' : Call} (h : s.slots[i] = some c) (hc : c.Note c') : Calm s (s.putCall i c')
  | schedules {s : State} {i : Fin 64} {keys : List Nat} {c : Call} (h : s.slots[i] = none) (hk : ∀ k ∈ keys, k < 4096)
      (hc : c.fresh) : Calm s (s.scheduleCall i keys c)
  | retires {s : State} {i : Fin 64} {c : Call} (h : s.slots[i] = some c) (hc : c.phase.due = false) : Calm s (s.retireSlot i)
  | maps {s : State} {k : Nat} {i : Fin 64} (h : s.slots[i].isSome = true) (hk : k < 4096) : Calm s (s.mapKey k i)
  | unmaps (s : State) (k : Nat) : Calm s (s.unmapKey k)

/-! ### What a calm stretch leaves as it was -/

theorem hasAlert_addAlert {a b : Alert} {set : AlertSet} (h : hasAlert a set = true) : hasAlert a (addAlert b set) = true := by
  simp only [hasAlert, addAlert, BitVec.getLsbD_or] at h ⊢
  simp [h]

/-- What a calm stretch, and every other event that no request of an operator and no supply makes, leaves as it was. -/
structure Undisturbed (s t : State) : Prop where
  pending : t.pending = s.pending
  power : t.power = s.power
  limits : t.ops.limits = s.ops.limits
  reply : t.ops.reply = s.ops.reply
  alerts : ∀ a, hasAlert a s.ops.alerts = true → hasAlert a t.ops.alerts = true

theorem Undisturbed.refl (s : State) : Undisturbed s s := ⟨rfl, rfl, rfl, rfl, fun _ h => h⟩

theorem Undisturbed.trans {s t u : State} (h : Undisturbed s t) (h' : Undisturbed t u) : Undisturbed s u :=
  ⟨h'.pending.trans h.pending, h'.power.trans h.power, h'.limits.trans h.limits, h'.reply.trans h.reply,
    fun a ha => h'.alerts a (h.alerts a ha)⟩

theorem Calm.undisturbed {s t : State} (h : Calm s t) : Undisturbed s t := by
  induction h with
  | refl s => exact .refl s
  | trans _ _ h h' => exact h.trans h'
  | port o hl hr ha => exact ⟨rfl, rfl, hl, hr, ha⟩
  | lanes | trace | retained => exact ⟨rfl, rfl, rfl, rfl, fun _ h => h⟩
  | draws | stage | note | schedules | retires | maps | unmaps =>
    constructor <;> simp [State.scheduleCall]

theorem Calm.ts_refs {s t : State} (h : Calm s t) : t.ts = s.ts ∧ t.refs = s.refs := by
  induction h with
  | trans _ _ h h' => exact ⟨h'.1.trans h.1, h'.2.trans h.2⟩
  | refl | port | lanes | trace | retained => exact ⟨rfl, rfl⟩
  | draws | stage | note | schedules | retires | maps | unmaps => simp [State.scheduleCall]

theorem Calm.inService {s t : State} (h : Calm s t) : t.inService = s.inService := by
  simp only [State.inService, h.ts_refs.1]

theorem Calm.saved {s t : State} (h : Calm s t) :
    t.retained.savedRate = s.retained.savedRate ∧ t.retained.valid = s.retained.valid := by
  induction h with
  | trans _ _ h h' => exact ⟨h'.1.trans h.1, h'.2.trans h.2⟩
  | retained r hr hv => exact ⟨hr, hv⟩
  | refl | port | lanes | trace => exact ⟨rfl, rfl⟩
  | draws | stage | note | schedules | retires | maps | unmaps => simp [State.scheduleCall]

/-! ### The shared operations are calm -/

theorem Calm.raise (s : State) (a : Alert) : Calm s (s.raise a) := .port _ rfl rfl fun _ => hasAlert_addAlert

theorem Calm.onLane {s : State} {l : Fin 16} {f : Lane → Lane} (h : s.lanes[l].Keeps (f s.lanes[l])) : Calm s (s.onLane l f) := by
  refine .lanes _ fun m => ?_
  by_cases hm : m = l
  · subst hm
    simpa using h
  · have := s.onLane_other l m hm f
    rw [State.onLane_lanes] at this
    rw [this]
    exact .refl _

theorem Calm.useWindow {s : State} {l : Fin 16} {f : Lane → Lane} (h : s.lanes[l].Keeps (f s.lanes[l])) :
    Calm s (s.useWindow l f) := by
  unfold State.useWindow
  dsimp only
  split
  · exact (Calm.onLane h).trans (.raise _ _)
  · exact .onLane h

theorem Calm.ageLane (s : State) (l : Fin 16) : Calm s (s.ageLane l) := .useWindow (.age _ _ _)

theorem Calm.evaluateWith (s : State) (u : Nat) : Calm s (s.evaluateWith u) := by
  have hdg : Calm s { s with trace := { s.trace with dg := evalGrade s.trace.settings s.inService s.trace.dg u } } :=
    .trace _ fun h => .inr (by rw [h]; rfl)
  unfold State.evaluateWith
  dsimp only
  split
  · exact hdg
  · exact hdg.trans (.raise _ _)

theorem Calm.evaluate (s : State) (t : Nat) : Calm s (s.evaluate t) := .evaluateWith s _

theorem Calm.sampleAt (s : State) (t : Nat) : Calm s (s.sampleAt t) := by
  refine (Calm.evaluate s t).trans ?_
  exact .trace (s := s.evaluate t) _ fun _ => .inl rfl

theorem Calm.moveCursor (s : State) (p : Path) (i : Fin 64) : Calm s (s.moveCursor p i) := by
  cases p with
  | lane l => exact .onLane (f := fun n => { n with cursor := i }) (.of_eq rfl rfl rfl rfl rfl id fun _ h => h)
  | ops => exact .port _ rfl rfl fun _ h => h

end Sys2Proof.Machine
end

section
/-! PROOFS. The events and the answering blocks of chapters 3, 4, 6, 7 and 8 are calm, one lemma per operation; and what the bringing up
of a call leaves (R91, R137). -/

namespace Sys2Proof.Machine

/-! ### The taking of the end and the bringing up of a call (R136, R142, R143, R91) -/

variable {s : State} {i : Fin 64}

theorem Calm.openWindow {c : Call} (h : s.slots[i] = some c) (hc : c.phase = .call) : Calm s (s.openWindow i c) :=
  (Calm.draws s).trans (.stage (s := s.countDraw) h (.windows _ hc))

theorem Call.closes_eq_false {dg : Grade} {c : Call} (h : ¬ c.closes dg = true) :
    c.holdsUsed < c.holdMax ∧ dg.meets c.required = false := by
  simpa [Call.closes, and_comm] using h

theorem Calm.closeOrHold {c : Call} (h : s.slots[i] = some c) (hc : c.phase.endPending = true) (dg : Grade) :
    Calm s (s.closeOrHold i c dg) := by
  unfold State.closeOrHold
  split
  · next hcl =>
    have hset : Calm s (s.commit i (c.settled dg)) := .stage h (.settles dg hc hcl)
    split
    · exact hset
    · exact hset.trans (.raise _ _)
  · next hcl => exact (Calm.stage h (.holds hc (Call.closes_eq_false hcl).1)).trans (.raise _ _)

theorem Calm.takeEnd {c : Call} (h : s.slots[i] = some c) (hc : c.phase.endPending = true) : Calm s (s.takeEnd i c) :=
  (Calm.evaluate s _).trans (.closeOrHold (by simpa using h) hc _)

theorem Call.endReached_iff (t : Nat) (c : Call) :
    c.endReached t = true ↔ c.phase.endPending = true ∧ ∃ e, c.tEnd = some e ∧ e ≤ t := by
  simp [Call.endReached, Option.any_eq_true_iff_get, Option.eq_some_iff_get_eq]

theorem Calm.takeEnds (s : State) (i : Fin 64) (t n : Nat) : Calm s (s.takeEnds i t n) := by
  induction n generalizing s with
  | zero => exact .refl s
  | succ n ih =>
    unfold State.takeEnds
    split
    · next c hc =>
      split
      · next hr => exact (Calm.takeEnd hc ((c.endReached_iff t).1 hr).1).trans (ih _)
      · exact .refl s
    · exact .refl s

theorem Calm.openWindowBy (s : State) (i : Fin 64) (t : Nat) : Calm s (s.openWindowBy i t) := by
  unfold State.openWindowBy
  split
  · next c hc =>
    split
    · next h => exact .openWindow hc h.1
    · exact .refl s
  · exact .refl s

theorem Calm.bringUp (s : State) (i : Fin 64) (t : Nat) : Calm s (s.bringUp i t) :=
  (Calm.openWindowBy s i t).trans (.takeEnds _ i t _)

/-- What the taking of an end leaves in the slot: the call closed, or held on with a hold fewer left (R143). -/
theorem takeEnd_slot (s : State) (i : Fin 64) (c : Call) :
    (∃ dg, (s.takeEnd i c).slots[i] = some (c.settled dg).revised) ∨
    c.holdsUsed < c.holdMax ∧ (s.takeEnd i c).slots[i] = some c.heldOn.revised := by
  have hs : ∀ dg (u : State), (u.closeOrHold i c dg).slots[i] = some (c.settled dg).revised ∨
      c.holdsUsed < c.holdMax ∧ (u.closeOrHold i c dg).slots[i] = some c.heldOn.revised := by
    intro dg u
    unfold State.closeOrHold
    by_cases hcl : c.closes dg = true
    · rw [if_pos hcl]
      split
      · exact .inl (State.commit_same _ i _)
      · exact .inl (State.commit_same _ i _)
    · rw [if_neg hcl]
      exact .inr ⟨(Call.closes_eq_false hcl).1, State.commit_same _ i _⟩
  exact (hs _ _).imp (fun h => ⟨_, h⟩) id

/-- One round of the taking of ends: the end that the instant has reached is taken and the rest of the rounds follow, or nothing is
left to take (R91). -/
theorem takeEnds_succ_cases (s : State) (i : Fin 64) (t n : Nat) :
    (s.takeEnds i t (n + 1) = s ∧ ∀ c, s.slots[i] = some c → c.endReached t = false) ∨
    ∃ c, s.slots[i] = some c ∧ c.endReached t = true ∧ s.takeEnds i t (n + 1) = (s.takeEnd i c).takeEnds i t n := by
  cases hc : s.slots[i] with
  | none => exact .inl ⟨by simp only [State.takeEnds, hc], fun _ h => nomatch h⟩
  | some c =>
    by_cases hr : c.endReached t = true
    · exact .inr ⟨c, rfl, hr, by simp only [State.takeEnds, hc, hr, if_true]⟩
    · refine .inl ⟨by simp only [State.takeEnds, hc, hr]; rfl, fun c' h => ?_⟩
      cases h
      simpa using hr

/-- With as many takings as the call has holds left and one more, no end is left that the instant has reached (R91). -/
theorem takeEnds_not_reached (t n : Nat) (s : State) (h : ∀ c, s.slots[i] = some c → c.holdMax - c.holdsUsed < n) {c : Call}
    (hc : (s.takeEnds i t n).slots[i] = some c) : c.endReached t = false := by
  induction n generalizing s with
  | zero => exact absurd (h c hc) (Nat.not_lt_zero _)
  | succ n ih =>
    obtain ⟨he, hnot⟩ | ⟨c₀, hc₀, -, he⟩ := takeEnds_succ_cases s i t n
    · rw [he] at hc
      exact hnot c hc
    · rw [he] at hc
      obtain ⟨dg, hs⟩ | ⟨hlt, hs⟩ := takeEnd_slot s i c₀
      · have hclosed : (c₀.settled dg).revised.endReached t = false := rfl
        have hstill : (s.takeEnd i c₀).takeEnds i t n = s.takeEnd i c₀ := by
          cases n with
          | zero => rfl
          | succ n =>
            obtain ⟨h, -⟩ | ⟨c', hc', hr', -⟩ := takeEnds_succ_cases (s.takeEnd i c₀) i t n
            · exact h
            · rw [hs] at hc'
              cases hc'
              rw [hclosed] at hr'
              cases hr'
        rw [hstill, hs] at hc
        cases hc
        exact hclosed
      · refine ih _ (fun c' hc' => ?_) hc
        rw [hs] at hc'
        cases hc'
        have := h c₀ hc₀
        show c₀.holdMax - (c₀.holdsUsed + 1) < n
        omega

theorem bringUp_not_reached (s : State) (i : Fin 64) (t : Nat) {c : Call} (hc : (s.bringUp i t).slots[i] = some c) :
    c.endReached t = false := by
  refine takeEnds_not_reached t _ _ (fun c' hc' => ?_) hc
  simp [State.takingsLeft, hc']

/-- The taking of ends leaves no call in CALL, unless it was there before. -/
theorem takeEnds_call (t n : Nat) (s : State) {c : Call} (hc : (s.takeEnds i t n).slots[i] = some c) (hp : c.phase = .call) :
    s.slots[i] = some c := by
  induction n generalizing s with
  | zero => exact hc
  | succ n ih =>
    obtain ⟨he, -⟩ | ⟨c₀, -, -, he⟩ := takeEnds_succ_cases s i t n
    · rwa [he] at hc
    · rw [he] at hc
      have h := ih _ hc
      obtain ⟨dg, hs⟩ | ⟨-, hs⟩ := takeEnd_slot s i c₀
      · rw [hs] at h; cases h; cases hp
      · rw [hs] at h; cases h; cases hp

theorem bringUp_call (s : State) (i : Fin 64) (t : Nat) {c : Call} (hc : (s.bringUp i t).slots[i] = some c)
    (hp : c.phase = .call) : t < c.tSched := by
  have h := takeEnds_call t _ _ hc hp
  have hcases : (∃ c₀ : Call, (s.openWindowBy i t).slots[i] = some (c₀.windowed s.draw).revised) ∨
      s.openWindowBy i t = s ∧ ∀ c₀, s.slots[i] = some c₀ → c₀.phase = .call → t < c₀.tSched := by
    cases hs : s.slots[i] with
    | none => exact .inr ⟨by simp only [State.openWindowBy, hs], fun _ h => nomatch h⟩
    | some c₀ =>
      by_cases ho : c₀.phase = .call ∧ c₀.tSched ≤ t
      · refine .inl ⟨c₀, ?_⟩
        have he : s.openWindowBy i t = s.openWindow i c₀ := by simp only [State.openWindowBy, hs, if_pos ho]
        rw [he]
        exact State.commit_same _ i _
      · refine .inr ⟨by simp only [State.openWindowBy, hs, if_neg ho], fun c' h hp' => ?_⟩
        cases h
        exact Nat.not_le.1 fun hle => ho ⟨hp', hle⟩
  obtain ⟨c₀, hw⟩ | ⟨he, hbefore⟩ := hcases
  · rw [hw] at h
    cases h
    cases hp
  · rw [he] at h
    exact hbefore c h hp

/-! ### The expiries (R132 to R136, R142) -/

theorem Calm.onDue {act : Call → State → State} (hact : ∀ c, s.slots[i] = some c → Calm s (act c s)) : Calm s (s.onDue i act) := by
  unfold State.onDue
  split
  · next c hc =>
    split
    · exact hact c hc
    · exact .refl s
  · exact .refl s

theorem Calm.openCall {c : Call} (h : s.slots[i] = some c) (hc : c.phase = .scheduled) : Calm s (s.openCall i c) := by
  unfold State.openCall
  split
  · next hs => exact .stage h (.opens hc hs)
  · exact (Calm.stage h (.cancels .missedOpen (by rw [hc]; rfl))).trans (.raise _ _)

/-! ### Probes and echoes (R101 to R106) -/

theorem Calm.intervalExpiry (s : State) (l : Fin 16) : Calm s (intervalExpiry l s) := by
  unfold Machine.intervalExpiry
  split
  · split
    · next hc =>
      refine .onLane ?_
      dsimp only
      have hk := Lane.Keeps.startInterval (n := s.lanes[l]) s.ts.raw
      split
      · next hp =>
        have hk' := Lane.Keeps.placeProbe (n := s.lanes[l].startInterval s.ts.raw) hc.1 hp
        exact ⟨⟨hk'.up.trans hk.up, hk'.queue.trans hk.queue, hk'.replies.trans hk.replies, fun h => hk'.notices (hk.notices h),
          fun h => hk'.window (hk.window h), fun h => Bool.noConfusion (hc.1.symm.trans h), hk'.tx⟩, rfl, rfl⟩
      · exact hk
    · exact .refl s
  · exact .refl s

theorem Calm.probeLeavesPort (s : State) (l : Fin 16) : Calm s (probeLeavesPort l s) := by
  unfold Machine.probeLeavesPort
  split
  · next h =>
    have hup : s.lanes[l].up = true := (Bool.and_eq_true_iff.1 h).1
    exact .onLane (.of_up hup rfl rfl rfl rfl rfl id)
  · exact .refl s

theorem Calm.echoTimerExpires (s : State) (l : Fin 16) : Calm s (echoTimerExpires l s) := by
  unfold Machine.echoTimerExpires
  split
  · split
    · exact .onLane (.expireProbe _ _)
    · exact .refl s
  · exact .refl s

theorem appendSample_length_le (x : Sample) {w : List Sample} (h : w.length ≤ 8) : (appendSample x w).length ≤ 8 := by
  unfold appendSample
  split <;> simp <;> omega

theorem Calm.answerProbe (s : State) (l : Fin 16) (hup : s.lanes[l].up = true) (latch departed turnaround : Nat) :
    Calm s (s.answerProbe l latch departed turnaround) := by
  unfold State.answerProbe
  dsimp only
  split
  · exact .onLane (.of_up hup rfl rfl rfl rfl rfl id)
  · exact .useWindow (.of_up hup rfl rfl rfl rfl rfl fun h =>
      appendSample_length_le _ ((agedWindow_length_le _ _ _).trans h))

theorem Calm.onLane_counts (s : State) (l : Fin 16) (f : LaneCounts → LaneCounts) :
    Calm s (s.onLane l fun n => { n with counts := f n.counts }) :=
  .onLane (f := fun n => { n with counts := f n.counts }) (.of_eq rfl rfl rfl rfl rfl id fun _ h => h)

theorem Calm.badEcho (s : State) (l : Fin 16) : Calm s (s.onLane l Lane.badEcho) :=
  .onLane (.of_eq rfl rfl rfl rfl rfl id fun _ h => h)

theorem Calm.lateEcho (s : State) (l : Fin 16) : Calm s (s.onLane l Lane.lateEcho) :=
  .onLane (.of_eq rfl rfl rfl rfl rfl id fun _ h => h)

theorem Calm.classifyEcho (s : State) (l : Fin 16) (hup : s.lanes[l].up = true) (latch : Nat) (tag : Tag) (payload : List Byte) :
    Calm s (s.classifyEcho l latch tag payload) := by
  unfold State.classifyEcho
  split
  · exact .badEcho s l
  · split
    · split
      · split
        · exact .answerProbe s l hup _ _ _
        · exact .badEcho s l
      · split
        · exact .lateEcho s l
        · exact .badEcho s l
    · split
      · exact .lateEcho s l
      · exact .badEcho s l

theorem Calm.echoEnds (s : State) (l : Fin 16) (tag : Tag) (payload : List Byte)
    (herr : payload.length ≤ 248) : Calm s (echoEnds l tag payload s) := by
  unfold Machine.echoEnds
  obtain h | ⟨latch, hup, -, ⟨hlong, -⟩ | ⟨-, h⟩⟩ := laneFrame_cases l payload
    (fun latch s => (s.onLane l fun n => { n with rxLatch := none }).classifyEcho l latch tag payload) s
  · rw [h]; exact .refl s
  · omega
  · rw [h]
    have hspent : Calm s (s.onLane l fun n => { n with rxLatch := none }) :=
      .onLane (.of_up hup rfl rfl rfl rfl rfl id)
    exact hspent.trans (.classifyEcho _ l (by rw [State.onLane_same]; exact hup) _ _ _)

theorem Calm.delimiterArrives (s : State) (l : Fin 16) : Calm s (delimiterArrives l s) := by
  unfold Machine.delimiterArrives
  split
  · next hup =>
    exact .onLane (f := fun n => { n with rxLatch := some s.now }) (.of_up hup rfl rfl rfl rfl rfl id)
  · exact .refl s

end Sys2Proof.Machine
end

section
/-! PROOFS. The answering blocks: which of them are calm, what a stamp does, and what a reply may tell. -/

namespace Sys2Proof.Machine

variable {s : State} {i : Fin 64}

/-! ### The requests of the auction table (7.4 to 7.9, 8.5) -/

/-- A request with an addressing form is calm where its entry is. -/
theorem Calm.addressed {off : Nat} {p : Path} {b : List Byte} {act : Fin 64 → State → State × Answer}
    (hact : ∀ i u, Calm u (act i u).1) (s : State) : Calm s (addressed off p b act s).1 := by
  obtain ⟨c, h⟩ | ⟨i, wrap, s', ⟨rfl, -⟩ | rfl, h⟩ := addressed_cases off p b act s
  · rw [h]; exact .refl s
  · rw [h]; exact hact i s'
  · rw [h]; exact (Calm.moveCursor s p i).trans (hact i _)

theorem keyList_lt {b : List Byte} {keys : List Nat} (h : ¬ (keys.any fun k => 4095 < k) = true) (hk : keys = keyList b) :
    ∀ k ∈ keys, k < 4096 := by
  subst hk
  simpa [Nat.lt_succ_iff] using h

theorem Calm.scheduleBlock (p : Path) (instant : Nat) (b : List Byte) (s : State) : Calm s (scheduleBlock p instant b s).1 := by
  unfold Machine.scheduleBlock
  dsimp only
  split
  · exact .refl s
  · split
    · exact .refl s
    · next q _ =>
      split
      · exact .refl s
      · next j _ =>
        split
        · exact .refl s
        · next hk =>
          split
          · exact .refl s
          · next hfree =>
            split
            · exact .refl s
            · split
              · exact .refl s
              · next required _ =>
                split
                · exact .refl s
                · split
                  · exact .refl s
                  · exact .schedules (by simpa [State.occupied] using hfree) (keyList_lt hk rfl) ⟨q, required, rfl⟩

theorem Calm.retime {c : Call} {q : TimeChange} (h : s.slots[i] = some c) (hc : c.Step s.inService (c.retimed q)) :
    Calm s (s.retime i q c).1 := by
  unfold State.retime
  split
  · exact .refl s
  · exact .stage h hc

theorem Calm.rescheduleBlock (p : Path) (arrival : Nat) (b : List Byte) (s : State) :
    Calm s (rescheduleBlock p arrival b s).1 := by
  refine .addressed (fun i s => ?_) s
  split
  · exact .refl s
  · split
    · exact .refl s
    · next q _ =>
      split
      · exact .refl s
      · next c hc =>
        split
        · next hp =>
          unfold rescheduleScheduled
          split
          · exact .refl s
          · split
            · exact .refl s
            · exact .retime hc (.retimes q arrival (.inl hp))
        · next hp =>
          unfold rescheduleCall
          split
          · exact .refl s
          · split
            · exact .refl s
            · next hok =>
              have hsched : q.tSched.all (c.schedOk arrival) = true := by
                simp only [Bool.not_eq_true, Bool.or_eq_false_iff, Bool.not_eq_false'] at hok
                exact hok.2
              exact .retime hc (.retimes q arrival (.inr ⟨hp, hsched⟩))
        all_goals exact .refl s

theorem Calm.cancelBlock (p : Path) (instant : Nat) (b : List Byte) (s : State) : Calm s (cancelBlock p instant b s).1 := by
  refine .addressed (fun i s => ?_) s
  split
  · exact .refl s
  · next c hc =>
    split
    · next hdue => exact .stage hc (.cancels .request hdue)
    · exact .refl s

theorem Calm.retireBlock (p : Path) (instant : Nat) (b : List Byte) (s : State) : Calm s (retireBlock p instant b s).1 := by
  refine .addressed (fun i s => ?_) s
  split
  · exact .refl s
  · next c hc =>
    split
    · exact .refl s
    · next hdue => exact .retires hc (by simpa using hdue)

theorem State.mayTakeKeys_isSome (h : s.mayTakeKeys i = true) : s.slots[i].isSome = true := by
  unfold State.mayTakeKeys at h
  cases hc : s.slots[i] with
  | none => rw [hc] at h; cases h
  | some c => rfl

theorem Calm.mapKeyBlock (p : Path) (instant : Nat) (b : List Byte) (s : State) : Calm s (mapKeyBlock p instant b s).1 := by
  unfold Machine.mapKeyBlock
  dsimp only
  split
  · exact .refl s
  · next hk =>
    refine .addressed (fun i u => ?_) s
    split
    · exact .refl u
    · next hmay =>
      split
      · exact .refl u
      · exact .maps (State.mayTakeKeys_isSome (by simpa using hmay)) (by omega)

theorem Calm.unmapKeyBlock (p : Path) (instant : Nat) (b : List Byte) (s : State) :
    Calm s (unmapKeyBlock p instant b s).1 := by
  unfold Machine.unmapKeyBlock
  dsimp only
  split
  · exact .refl s
  · split
    · exact .refl s
    · split
      · exact .refl s
      · exact .unmaps s _

theorem Calm.membership (change : LaneSet → Fin 16 → LaneSet) (p : Path) (instant : Nat) (b : List Byte) (s : State) :
    Calm s (membership change p instant b s).1 := by
  refine .addressed (fun i u => ?_) s
  split
  · exact .refl u
  · split
    · exact .refl u
    · next hc => exact .note hc (.notifies _)

theorem Calm.judgeExtend {c : Call} (h : s.slots[i] = some c) (arrival carried applied : Nat) :
    Calm s (s.judgeExtend i arrival carried applied c).1 := by
  unfold State.judgeExtend
  split
  · next hp =>
    split
    · exact .refl s
    · next hc => exact .stage h (.extendsInCall applied hp (Nat.not_le.1 hc))
  · next hp =>
    split
    · exact .refl s
    · next hc =>
      exact (Calm.draws s).trans (.stage (s := s.countDraw) h (.extendsInWindow arrival applied s.draw (.inl hp) (Nat.not_le.1 hc)))
  · next hp =>
    split
    · exact .refl s
    · next hc =>
      exact (Calm.draws s).trans (.stage (s := s.countDraw) h (.extendsInWindow arrival applied s.draw (.inr hp) (Nat.not_le.1 hc)))
  all_goals exact .refl s

theorem Calm.extendBlock (p : Path) (arrival : Nat) (b : List Byte) (s : State) : Calm s (extendBlock p arrival b s).1 := by
  refine .addressed (fun i u => ?_) s
  split
  · exact .refl u
  · next c _ =>
    refine (Calm.bringUp u i arrival).trans ?_
    dsimp only
    split
    · exact .refl _
    · next hc => exact .judgeExtend hc _ _ _

/-! ### Stamps (R83 to R95) -/

theorem Calm.ruleStamp (s : State) (i : Fin 64) (t : Nat) : Calm s (s.ruleStamp i t).1 := by
  unfold State.ruleStamp
  refine (Calm.bringUp s i t).trans ?_
  dsimp only
  split
  · next c hc => exact .note hc (.counts t (bringUp_call s i t hc) (bringUp_not_reached s i t hc))
  · exact .refl _

theorem Calm.ruleKey (s : State) (k t : Nat) : Calm s (s.ruleKey k t).1 := by
  unfold State.ruleKey
  split
  · exact .ruleStamp s _ t
  · exact .refl s

theorem Calm.countStamp (s : State) (g : Grade) : Calm s (s.countStamp g) := .trace _ fun _ => .inl rfl

/-- The stamp that lane `l` issues for an arrival latch (R84 to R86). -/
def State.datedOn (l : Fin 16) (tArr : Nat) (s : State) : Dated := (s.ageLane l).lanes[l].date tArr

/-- A stamp is issued over an aged window, and the evaluation and the count of it are calm (R83 to R88). -/
theorem Calm.dateStamp (s : State) (l : Fin 16) (tArr : Nat) :
    Calm ((s.ageLane l).onLane l (Lane.issue (s.datedOn l tArr))) (s.dateStamp l tArr).1 :=
  (Calm.evaluate _ tArr).trans (.countStamp _ _)

/-- A request that issues a stamp on lane `l`: the window is used, the stamp issued, and the rest is calm. -/
def Stamped (l : Fin 16) (tArr : Nat) (s t : State) : Prop :=
  Calm ((s.ageLane l).onLane l (Lane.issue (s.datedOn l tArr))) t

theorem stampBlock_cases (p : Path) (tArr : Nat) (b : List Byte) (s : State) :
    (stampBlock p tArr b s).1 = s ∨ ∃ l, p = .lane l ∧ Stamped l tArr s (stampBlock p tArr b s).1 := by
  cases p with
  | ops => exact .inl rfl
  | lane l =>
    simp only [stampBlock]
    split
    · exact .inl rfl
    · exact .inr ⟨l, rfl, .dateStamp s l tArr⟩

theorem stampKeyedBlock_cases (p : Path) (tArr : Nat) (b : List Byte) (s : State) :
    (stampKeyedBlock p tArr b s).1 = s ∨ ∃ l, p = .lane l ∧ Stamped l tArr s (stampKeyedBlock p tArr b s).1 := by
  cases p with
  | ops => exact .inl rfl
  | lane l =>
    simp only [stampKeyedBlock]
    split
    · exact .inl rfl
    · split
      · exact .inl rfl
      · exact .inr ⟨l, rfl, (Calm.dateStamp s l tArr).trans (.ruleKey _ _ _)⟩

/-! ### Every block -/

/-- The kinds whose blocks are calm: those that change neither the timescale, the references, the limits nor the retained rate, take no
alert from the set and issue no stamp. -/
def Kind.calm : Kind → Bool
  | .stamp | .stampKeyed | .setTimescale | .setReference | .armReference | .disableReference | .setDeviceLimits | .resync
  | .readAlerts | .retainedWrite => false
  | .calibrate | .echo | .readTime | .traceReport | .laneStatus | .queryAuction | .subscribe | .unsubscribe | .schedule
  | .reschedule | .extend | .cancel | .retire | .mapKey | .unmapKey | .readReference | .setTrace | .setLane | .closeInterval
  | .setAlertMask | .retainedEnable | .retainedRead | .systemReset => true

theorem Calm.laneStatusBlock (p : Path) (instant : Nat) (b : List Byte) (s : State) :
    Calm s (laneStatusBlock p instant b s).1 := by
  unfold Machine.laneStatusBlock
  split
  · exact .ageLane s _
  · split
    · next l clear _ _ =>
      refine (Calm.ageLane s l).trans ?_
      dsimp only
      split
      · exact .onLane_counts _ l fun _ => .zero
      · exact .refl _
    · exact .refl s

theorem Calm.setTraceBlock (p : Path) (instant : Nat) (b : List Byte) (s : State) : Calm s (setTraceBlock p instant b s).1 := by
  unfold Machine.setTraceBlock
  dsimp only
  split
  · have hset : Calm s { s with trace := { s.trace with settings := decodeTraceSettings b } } := .trace _ fun _ => .inl rfl
    exact hset.trans (.evaluate _ _)
  · exact .refl s

theorem Calm.setLaneBlock (p : Path) (instant : Nat) (b : List Byte) (s : State) : Calm s (setLaneBlock p instant b s).1 := by
  unfold Machine.setLaneBlock
  split
  · next l c _ _ =>
    refine .onLane (f := fun n => { n with settings := c }.startInterval s.ts.raw) ?_
    exact .of_eq rfl rfl rfl rfl rfl id fun hup ⟨h1, h2, h3, _, h5, h6⟩ =>
      ⟨h1, h2, h3, if_neg fun h => Bool.noConfusion (hup.symm.trans h.1), h5, h6⟩
  · exact .refl s

theorem Calm.calibrateBlock (p : Path) (hup : ∀ l, p = .lane l → s.lanes[l].up = true) (instant : Nat) (b : List Byte) :
    Calm s (calibrateBlock p instant b s).1 := by
  unfold Machine.calibrateBlock
  split
  · next l =>
    split
    · next h => exact .onLane (.placeProbe (hup l rfl) h)
    · exact .refl s
  · exact .refl s

/-- The blocks of the calm kinds, of a request from an UP lane or from the port. -/
theorem Kind.block_calm {k : Kind} (hk : k.calm = true) (p : Path) (hup : ∀ l, p = .lane l → s.lanes[l].up = true)
    (instant : Nat) (b : List Byte) : Calm s (k.block p instant b s).1 := by
  cases k with
  | stamp | stampKeyed | setTimescale | setReference | armReference | disableReference | setDeviceLimits | resync
  | readAlerts | retainedWrite => cases hk
  | calibrate => exact .calibrateBlock p hup instant b
  | echo | retainedRead | systemReset => exact .refl s
  | readTime => exact .evaluate s instant
  | traceReport => exact .evaluate s instant
  | laneStatus => exact .laneStatusBlock p instant b s
  | queryAuction => exact .addressed (fun _ u => .refl u) s
  | subscribe => exact .membership addLane p instant b s
  | unsubscribe => exact .membership dropLane p instant b s
  | schedule => exact .scheduleBlock p instant b s
  | reschedule => exact .rescheduleBlock p instant b s
  | extend => exact .extendBlock p instant b s
  | cancel => exact .cancelBlock p instant b s
  | retire => exact .retireBlock p instant b s
  | mapKey => exact .mapKeyBlock p instant b s
  | unmapKey => exact .unmapKeyBlock p instant b s
  | readReference =>
    simp only [Kind.block, readReferenceBlock]
    split <;> exact .refl s
  | setTrace => exact .setTraceBlock p instant b s
  | setLane => exact .setLaneBlock p instant b s
  | closeInterval => exact .trace _ fun _ => .inl rfl
  | setAlertMask =>
    simp only [Kind.block, setAlertMaskBlock]
    split
    · exact .refl s
    · exact .port _ rfl rfl fun _ h => h
  | retainedEnable =>
    simp only [Kind.block, retainedEnableBlock]
    split
    · exact .refl s
    · exact .retained _ rfl rfl

/-- A kind that a lane's roles allow is calm or issues a stamp: the other kinds are the operations port's alone (R73). -/
theorem Kind.calm_of_allow {k : Kind} {r : Roles} (h : r.allow k = true) : k.calm = true ∨ k = .stamp ∨ k = .stampKeyed := by
  cases k with
  | stamp => exact .inr (.inl rfl)
  | stampKeyed => exact .inr (.inr rfl)
  | setTimescale | setReference | armReference | disableReference | setDeviceLimits | resync | readAlerts | retainedWrite =>
    cases h
  | _ => exact .inl rfl

/-- What the block of a request that an UP lane may make does: it is calm, or issues a stamp on that lane. -/
theorem Kind.block_of_lane {k : Kind} {l : Fin 16} {r : Roles} (h : r.allow k = true) (hup : s.lanes[l].up = true)
    (instant : Nat) (b : List Byte) :
    Calm s (k.block (.lane l) instant b s).1 ∨
    (k = .stamp ∨ k = .stampKeyed) ∧ Stamped l instant s (k.block (.lane l) instant b s).1 := by
  obtain hk | rfl | rfl := k.calm_of_allow h
  · refine .inl (k.block_calm hk _ (fun m hm => ?_) instant b)
    cases hm
    exact hup
  · obtain h | ⟨m, hm, h⟩ := stampBlock_cases (.lane l) instant b s
    · exact .inl (h.symm ▸ .refl s)
    · cases hm
      exact .inr ⟨.inl rfl, h⟩
  · obtain h | ⟨m, hm, h⟩ := stampKeyedBlock_cases (.lane l) instant b s
    · exact .inl (h.symm ▸ .refl s)
    · cases hm
      exact .inr ⟨.inr rfl, h⟩

end Sys2Proof.Machine
end

section
/-! PROOFS. What a mark, a rejection, a silence and the requests on references do to the timescale and the references: the relations
`Follow` and `Saves`, one case for each stage of chapters 1 and 2 that moves the timescale or makes or unmakes an ACTIVE reference. -/

namespace Sys2Proof.Machine

/-- The stages that leave the retained rate as it was (R7 to R10, R13 to R15, R21, R39). -/
inductive Follow : State → State → Prop
  | trans {s t u : State} (h : Follow s t) (h' : Follow t u) : Follow s u
  | calm {s t : State} (h : Calm s t) : Follow s t
  | records {s : State} (rs : Vector RefRecord 4) (h : ∀ q : Fin 4, rs[q].state = .active ↔ s.refs[q].state = .active) :
      Follow s { s with refs := rs }
  | steps {s : State} (θ : Int) (tMark uRef : Nat) (h : s.ts.state = .acquiring) :
      Follow s { s with ts := s.ts.stepBy θ tMark uRef }
  | slews {s : State} (p : Fin 4) (m : Mark) (θ : Int) (n : Nat) (h : s.ts.state = .acquiring) :
      Follow s { s with ts := { s.ts.slewTo θ p m with lockCount := n } }
  | starts {s : State} (p : Fin 4) (h : ∀ q : Fin 4, s.refs[q].state ≠ .active) (hu : s.ts.state = .unset) :
      Follow s ((s.becomeActive p).changeState .acquiring)
  | loses {s : State} (p : Fin 4) (f : RefRecord → RefRecord) (hp : s.refs[p].state = .active)
      (hf : (f s.refs[p]).state ≠ .active) : Follow s (s.onRef p f).loseActive
  | fails {s : State} (p : Fin 4) (c : FailureCause) (hp : s.refs[p].state = .active) :
      Follow s ((s.onRef p (RefRecord.fail c)).raise .referenceFailed).loseActive
  | configures {s : State} (c : TimescaleSettings) (h : c.ok = true) : Follow s { s with ts := s.ts.configure c }

/-- The stages that save r in the retained domain, each at a mark that leaves the timescale LOCKED (R12, R16, R17, R18). -/
inductive Saves : State → State → Prop
  | locks {s : State} (h : s.ts.state = .acquiring) (hm : s.ts.lastMark.isSome = true) : Saves s s.lock
  | applies {s : State} (p : Fin 4) (m : Mark) (θ : Int) (h : s.ts.state = .locked) : Saves s (s.applyLocked p m θ)
  | returns {s : State} (p : Fin 4) (m : Mark) (θ : Int) (h : ∀ q : Fin 4, s.refs[q].state ≠ .active)
      (hh : s.ts.state = .holdover) : Saves s ((s.becomeActive p).applyFirstMark p m θ)
  | reverts {s : State} (p old : Fin 4) (m : Mark) (θ : Int) (ho : s.refs[old].state = .active) (h : s.ts.state = .locked) :
      Saves s ((((s.onRef old fun r => { r with state := .ready }).clearDisputes).becomeActive p).applyFirstMark p m θ)

/-- What an accepted mark may do: stages that save nothing, and one at most that saves r after them. -/
def Marked (s t : State) : Prop := ∃ m, Follow s m ∧ (t = m ∨ Saves m t)

theorem Follow.refl (s : State) : Follow s s := .calm (.refl s)

theorem Follow.marked {s t : State} (h : Follow s t) : Marked s t := ⟨t, h, .inl rfl⟩

theorem Saves.marked {s t : State} (h : Saves s t) : Marked s t := ⟨s, .refl s, .inr h⟩

theorem Follow.then_marked {s t u : State} (h : Follow s t) (h' : Marked t u) : Marked s u :=
  let ⟨m, hm, hu⟩ := h'
  ⟨m, .trans h hm, hu⟩

/-! ### The records of the references -/

theorem State.refs_onRef (s : State) (p q : Fin 4) (f : RefRecord → RefRecord) :
    (s.onRef p f).refs[q] = if q = p then f s.refs[p] else s.refs[q] := by
  by_cases h : q = p
  · subst h
    rw [if_pos rfl, State.onRef_same]
  · rw [if_neg h, State.onRef_other s p q h f]

theorem State.refs_clearDisputes (s : State) (q : Fin 4) : s.clearDisputes.refs[q] = { s.refs[q] with disputed := false } := by
  simp [State.clearDisputes]

/-- A change of one record that neither makes its reference ACTIVE nor ends that. -/
theorem Follow.onRef {s : State} {p : Fin 4} {f : RefRecord → RefRecord}
    (h : (f s.refs[p]).state = .active ↔ s.refs[p].state = .active) : Follow s (s.onRef p f) := by
  refine .records _ fun q => ?_
  show (s.onRef p f).refs[q].state = .active ↔ _
  rw [State.refs_onRef]
  split
  · next hq => rw [hq]; exact h
  · rfl

theorem Follow.raise (s : State) (a : Alert) : Follow s (s.raise a) := .calm (.raise s a)

theorem State.activePort_eq_none_iff (s : State) : s.activePort = none ↔ ∀ q : Fin 4, s.refs[q].state ≠ .active := by
  simp [State.activePort, List.find?_eq_none]

theorem State.active_of_activePort {s : State} {a : Fin 4} (h : s.activePort = some a) : s.refs[a].state = .active := by
  simpa using List.find?_some h

/-! ### The application of a mark (R7 to R12) -/

theorem Follow.stepBy {s : State} (h : s.ts.state = .acquiring) (θ : Int) (tMark uRef : Nat) :
    Follow s (s.stepBy θ tMark uRef) := by
  refine .trans (.steps θ tMark uRef h) (.calm ?_)
  have habandon : ∀ u : State, Calm u (u.onLanes Lane.abandonProbe) := fun u =>
    .lanes _ fun l => by simpa using Lane.Keeps.abandonProbe u.lanes[l]
  refine (habandon _).trans ?_
  unfold State.stepBy State.sampleAtStep
  split
  · exact .trace _ fun _ => .inl rfl
  · split
    · exact .sampleAt _ _
    · exact .refl _

theorem Timescale.slewTo_lastMark (θ : Int) (p : Fin 4) (m : Mark) (t : Timescale) :
    (t.slewTo θ p m).lastMark = some (m.uRef, m.tMark) := rfl

theorem Timescale.updateRate_state (θ : Int) (p : Fin 4) (rawMark : Nat) (t : Timescale) :
    (t.updateRate θ p rawMark).state = t.state := by
  unfold Timescale.updateRate
  split <;> rfl

theorem Timescale.slewTo_state (θ : Int) (p : Fin 4) (m : Mark) (t : Timescale) : (t.slewTo θ p m).state = t.state :=
  Timescale.updateRate_state θ p m.rawMark t

theorem Marked.applyAcquiring {s : State} (h : s.ts.state = .acquiring) (p : Fin 4) (m : Mark) (θ : Int) :
    Marked s (s.applyAcquiring p m θ) := by
  unfold State.applyAcquiring
  dsimp only
  split
  · exact (Follow.stepBy h θ m.tMark m.uRef).marked
  · refine (Follow.slews p m θ (countLock (s.ts.slewTo θ p m).settings.lockLimit θ (s.ts.slewTo θ p m).lockCount) h).then_marked ?_
    split
    · exact (Saves.locks ((Timescale.slewTo_state θ p m s.ts).trans h) rfl).marked
    · exact (Follow.refl _).marked

theorem Marked.applyMark (s : State) (p : Fin 4) (m : Mark) (θ : Int) : Marked s (s.applyMark p m θ) := by
  unfold State.applyMark
  split
  · next h => exact .applyAcquiring h p m θ
  · next h => exact (Saves.applies p m θ h).marked
  · exact (Follow.refl s).marked
  · exact (Follow.refl s).marked

/-! ### Selection, the vote and the loss (R38 to R45) -/

theorem Follow.failRef (s : State) (p : Fin 4) (c : FailureCause) : Follow s (s.failRef p c) := by
  unfold State.failRef
  dsimp only
  split
  · next h => exact .fails p c h
  · next h => exact (Follow.onRef (iff_of_false (fun h => by cases h) h)).trans (.raise _ _)

theorem Marked.select {s : State} (hnone : ∀ q : Fin 4, s.refs[q].state ≠ .active)
    (h : s.ts.state = .unset ∨ s.ts.state = .holdover) (p : Fin 4) (m : Mark) (θ : Int) : Marked s (s.select p m θ) := by
  unfold State.select
  split
  · obtain h | h := h
    · have he : (s.becomeActive p).applyFirstMark p m θ = ((s.becomeActive p).changeState .acquiring).applyMark p m θ := by
        simp only [State.applyFirstMark, State.becomeActive_ts, h]
      rw [he]
      exact (Follow.starts p hnone h).then_marked (.applyMark _ p m θ)
    · exact (Saves.returns p m θ hnone h).marked
  · exact (Follow.refl s).marked

theorem Follow.vote (s : State) (p : Fin 4) (θ : Int) : Follow s (s.vote p θ) := by
  unfold State.vote
  dsimp only
  have hvoted := fun d : Bool => Follow.onRef (s := s) (p := p) (f := fun r => { r with disputed := d }) Iff.rfl
  split
  · exact (hvoted _).trans (.raise _ _)
  · exact hvoted _

theorem State.vote_ts (s : State) (p : Fin 4) (θ : Int) : (s.vote p θ).ts = s.ts := by
  unfold State.vote
  dsimp only
  split <;> rfl

theorem State.vote_state (s : State) (p q : Fin 4) (θ : Int) : (s.vote p θ).refs[q].state = s.refs[q].state := by
  have h : ∀ d : Bool, (s.onRef p fun r => { r with disputed := d }).refs[q].state = s.refs[q].state := by
    intro d
    rw [State.refs_onRef]
    split
    · next hq => rw [hq]
    · rfl
  unfold State.vote
  dsimp only
  split
  · exact h _
  · exact h _

theorem Marked.revert {s : State} {old : Fin 4} (ho : s.refs[old].state = .active) (p : Fin 4) (m : Mark) (θ : Int) :
    Marked s (s.revert p old m θ) := by
  unfold State.revert
  split
  · next h =>
    simp only [Bool.and_eq_true, beq_iff_eq] at h
    exact (Saves.reverts p old m θ ho h.1.1.2).marked
  · exact (Follow.refl s).marked

theorem Marked.voteMark {s : State} {a : Fin 4} (ha : s.refs[a].state = .active) (p : Fin 4) (m : Mark) (θ : Int) :
    Marked s (s.voteMark p a m θ) := by
  unfold State.voteMark
  dsimp only
  refine (Follow.vote s p θ).then_marked ?_
  split
  · exact (Follow.failRef _ a .outvoted).marked
  · exact .revert ((s.vote_state p a θ).trans ha) p m θ

theorem Marked.passOn (s : State) (p : Fin 4) (m : Mark) (θ : Int) : Marked s (s.passOn p m θ) := by
  unfold State.passOn
  split
  · exact .applyMark s p m θ
  · split
    · next a ha =>
      split
      · exact .voteMark (State.active_of_activePort ha) p m θ
      · exact (Follow.refl s).marked
    · next hnone =>
      split
      · next h => exact .select ((s.activePort_eq_none_iff).1 hnone) h p m θ
      · exact (Follow.refl s).marked
  all_goals exact (Follow.refl s).marked

/-! ### The filter and the ports (R23 to R32) -/

theorem RefRecord.accept_active (m : Mark) (r : RefRecord) : (r.accept m).state = .active ↔ r.state = .active := by
  unfold RefRecord.accept
  dsimp only
  split
  · next h => rw [h.1]; exact iff_of_false (fun h => nomatch h) (fun h => nomatch h)
  · rfl

theorem Marked.acceptMark (s : State) (p : Fin 4) (m : Mark) : Marked s (s.acceptMark p m) :=
  (Follow.onRef (RefRecord.accept_active m _)).then_marked (.passOn _ p m _)

theorem Follow.rejectMark (s : State) (p : Fin 4) (mark : Option Mark) : Follow s (s.rejectMark p mark) := by
  unfold State.rejectMark
  dsimp only
  refine .trans (.onRef (s := s) (p := p) (f := RefRecord.reject) Iff.rfl) ?_
  split
  · exact .refl _
  · split
    · exact .failRef _ p _
    · next h => exact .onRef (iff_of_false (fun h => by cases h) h)

theorem Follow.codeError (s : State) (p : Fin 4) : Follow s (s.codeError p) :=
  .trans (.onRef (s := s) (p := p) (f := RefRecord.countCodeError) Iff.rfl) (.rejectMark _ p none)

theorem Marked.judgeSecond (s : State) (p : Fin 4) (count : Int) (tMark rawMark uRef : Nat) :
    Marked s (s.judgeSecond p count tMark rawMark uRef) := by
  unfold State.judgeSecond State.filterMark
  dsimp only
  split
  · exact (Follow.codeError s p).marked
  · split
    · exact .acceptMark s p _
    · exact (Follow.trans (.onRef (s := s) (p := p) (f := RefRecord.countRejected) Iff.rfl) (.rejectMark _ p _)).marked

theorem RefRecord.pendPulse_state (x : PendingPulse) (r : RefRecord) : (r.pendPulse x).state = r.state := by
  unfold RefRecord.pendPulse
  dsimp only
  split <;> rfl

theorem Marked.pulseArrives (s : State) (p : Fin 4) (edge : Edge) (lines : BitVec 48) (error : Bool) :
    Marked s (pulseArrives p edge lines error s) := by
  unfold Machine.pulseArrives State.decodeEdge
  dsimp only
  split
  · refine (Follow.onRef (s := s) (p := p) (f := fun r => { r with silence := some s.ts.raw }) Iff.rfl).then_marked ?_
    split
    · exact (Follow.onRef (by rw [RefRecord.pendPulse_state])).marked
    · split
      · exact (Follow.codeError _ p).marked
      · exact .judgeSecond _ p _ _ _ _
  · exact (Follow.refl s).marked

theorem Follow.dropPulse (s : State) (p : Fin 4) : Follow s (s.onRef p fun r => { r with pulse := none }) :=
  .onRef (s := s) (p := p) (f := fun r => { r with pulse := none }) Iff.rfl

theorem Follow.badAnnouncement (s : State) (p : Fin 4) : Follow s (s.badAnnouncement p) :=
  .trans (.dropPulse s p) (.codeError _ p)

theorem Marked.goodAnnouncement (s : State) (p : Fin 4) (chars : List Byte) : Marked s (s.goodAnnouncement p chars) := by
  unfold State.goodAnnouncement
  split
  · exact (Follow.dropPulse s p).then_marked (.judgeSecond _ p _ _ _ _)
  · exact (Follow.onRef (s := s) (p := p) (f := fun r =>
      { r with counts := { r.counts with unpairedAnnouncements := satInc cap16 r.counts.unpairedAnnouncements } }) Iff.rfl).marked

theorem Marked.announcementTaken (s : State) (p : Fin 4) (chars : List Byte) (framing : Bool) :
    Marked s (announcementTaken p chars framing s) := by
  unfold Machine.announcementTaken
  dsimp only
  split
  · refine (Follow.onRef (s := s) (p := p) (f := fun r => { r with collecting := false }) Iff.rfl).then_marked ?_
    split
    · exact .goodAnnouncement _ p chars
    · exact (Follow.badAnnouncement _ p).marked
  · exact (Follow.refl s).marked

theorem Follow.cutShort (s : State) (p : Fin 4) : Follow s (cutShort p s) := by
  unfold Machine.cutShort
  split
  · exact .badAnnouncement s p
  · exact .refl s

theorem Follow.breakArrives (s : State) (p : Fin 4) : Follow s (breakArrives p s) := by
  unfold Machine.breakArrives
  split
  · exact .onRef (s := s) (p := p) (f := fun r => { r with collecting := true }) Iff.rfl
  · exact .refl s

theorem Follow.announceWindowEnds (s : State) (p : Fin 4) : Follow s (announceWindowEnds p s) := by
  unfold Machine.announceWindowEnds
  split
  · exact .onRef (s := s) (p := p) (f := fun r => { r.countUnpairedPulse with pulse := none }) Iff.rfl
  · exact .refl s

theorem Follow.silenceEnds (s : State) (p : Fin 4) : Follow s (silenceEnds p s) := by
  unfold Machine.silenceEnds
  split
  · exact .failRef s p .silent
  · exact .refl s

/-! ### The requests on references and on the timescale (R21, R33 to R35) -/

theorem Follow.setTimescaleBlock (p : Path) (instant : Nat) (b : List Byte) (s : State) :
    Follow s (setTimescaleBlock p instant b s).1 := by
  unfold Machine.setTimescaleBlock
  dsimp only
  split
  · next h => exact .configures _ h
  · exact .refl s

theorem Follow.setReferenceBlock (p : Path) (instant : Nat) (b : List Byte) (s : State) :
    Follow s (setReferenceBlock p instant b s).1 := by
  unfold Machine.setReferenceBlock
  split
  · exact .refl s
  · next q _ =>
    split
    · exact .refl s
    · next c _ =>
      split
      · exact .refl s
      · split
        · exact .onRef (s := s) (p := q) (f := fun r => { r with config := c }) Iff.rfl
        · exact .refl s

theorem Follow.armReferenceBlock (p : Path) (instant : Nat) (b : List Byte) (s : State) :
    Follow s (armReferenceBlock p instant b s).1 := by
  unfold Machine.armReferenceBlock
  split
  · exact .refl s
  · next q _ =>
    split
    · exact .refl s
    · next h => exact .onRef (iff_of_false (fun h => by cases h) fun ha => h (by rw [ha]; rfl))

theorem Follow.disableReferenceBlock (p : Path) (instant : Nat) (b : List Byte) (s : State) :
    Follow s (disableReferenceBlock p instant b s).1 := by
  unfold Machine.disableReferenceBlock
  split
  · exact .refl s
  · next q _ =>
    dsimp only
    split
    · next h => exact .loses q _ h fun h => by cases h
    · next h => exact .onRef (iff_of_false (fun h => by cases h) h)

end Sys2Proof.Machine
end

section
/-! PROOFS. What one command of a running part can do: the relation `Works`, and that every command but those of power does one of its
cases. -/

namespace Sys2Proof.Machine

/-! ### The record of a lane around the taking of a request (R66 to R71) -/

/-- The lane's record while a request taken from it is answered: a reply entry is free for the answer (R71). -/
def Lane.due (n : Lane) : Prop :=
  n.queue.length ≤ 8 ∧ n.replies ≤ 7 ∧ n.notices ≤ 8 ∧ n.window.length ≤ 8 ∧ (n.queue ≠ [] → n.replies = 7) ∧ n.up = true

/-- A lane's record taken to the answering of a request. -/
structure Lane.Ready (n n' : Lane) : Prop where
  up : n'.up = true
  due : n.wf → n'.due
  sequence : n'.sequence = n.sequence
  lastStamp : n'.lastStamp = n.lastStamp
  tx : ∀ f ∈ n'.tx, f ∈ n.tx

/-- A change of a lane's record at a link event or the end of a frame. -/
structure Lane.Moves (n n' : Lane) : Prop where
  wf : n.wf → n'.wf
  sequence : n'.sequence = n.sequence
  lastStamp : n'.lastStamp = n.lastStamp
  tx : ∀ f ∈ n'.tx, f ∈ n.tx

theorem Lane.Moves.frameError {n : Lane} (hup : n.up = true) : n.Moves n.frameError :=
  ⟨fun ⟨h1, h2, h3, h4, h5, _⟩ => ⟨h1, h2, h3, h4, h5, fun h => Bool.noConfusion (hup.symm.trans h)⟩, rfl, rfl, fun _ h => h⟩

/-- A request joins a queue that waits, or one that may begin to wait (R70). -/
theorem Lane.Moves.enqueue {n : Lane} (hup : n.up = true) (h : n.queue ≠ [] ∨ 8 ≤ n.replies) (q : Request) :
    n.Moves (n.enqueue q) := by
  have hdown : ∀ {P : Prop}, n.up = false → P := fun h => Bool.noConfusion (hup.symm.trans h)
  unfold Lane.enqueue
  split
  · next hlen =>
    have hlen' : n.queue.length < 8 := hlen
    refine ⟨fun ⟨_, h2, h3, h4, h5, _⟩ => ⟨?_, h2, h3, h4, fun _ => ?_, hdown⟩, rfl, rfl, fun _ h => h⟩
    · simp; omega
    · obtain h | h := h
      · exact h5 h
      · exact le_antisymm h2 h
  · exact ⟨fun ⟨h1, h2, h3, h4, h5, _⟩ => ⟨h1, h2, h3, h4, h5, hdown⟩, rfl, rfl, fun _ h => h⟩

theorem Lane.Moves.comeUp (raw : Nat) (n : Lane) : n.Moves ({ n with up := true }.startInterval raw) :=
  ⟨fun ⟨h1, h2, h3, h4, h5, _⟩ => ⟨h1, h2, h3, h4, h5, fun h => nomatch h⟩, rfl, rfl, fun _ h => h⟩

theorem Lane.Moves.goDown (cmax : Nat) (n : Lane) : n.Moves (n.goDown cmax) :=
  ⟨fun _ => ⟨Nat.zero_le _, Nat.zero_le _, Nat.zero_le _, Nat.zero_le _, fun h => absurd rfl h,
    fun _ => ⟨rfl, rfl, rfl, rfl, rfl, rfl, rfl⟩⟩, rfl, rfl, fun _ h => nomatch h⟩

/-- The latch of a frame is spent, and its request is answered at once (R71). -/
theorem Lane.Ready.spent {n : Lane} (hup : n.up = true) (hq : n.queue = []) (hn : n.replies < 8) :
    n.Ready { n with rxLatch := none } :=
  ⟨hup, fun ⟨h1, _, h3, h4, _, _⟩ => ⟨h1, Nat.le_of_lt_succ hn, h3, h4, fun h => absurd hq h, hup⟩, rfl, rfl, fun _ h => h⟩

/-! ### What a command does -/

/-- The command takes a request of kind `k` from lane `l`, whose arrival latch is `latch`: at the end of its frame, or as a reply leaves
(R71). -/
def TakesFrom (c : Instr) (u : State) (l : Fin 16) (k : Kind) (latch : Nat) : Prop :=
  ((∃ tag payload, c.request = some (.lane l tag payload, k)) ∨ ∃ dt bytes err, c = .frameEnd dt l bytes err) ∧
    u.lanes[l].rxLatch = some latch ∨
  (∃ dt, c = .frameLeaves dt l) ∧ ∃ q rest, u.lanes[l].queue = q :: rest ∧ q.latch = latch

/-- The answer to a request taken from lane `l`: a refusal, or what the block of a kind that the lane's roles allow answers. -/
def LaneServed (c : Instr) (u : State) (l : Fin 16) (v : State) (r : State × Answer) : Prop :=
  (∃ code, r = refuse code v) ∨
  ∃ k latch b, v.lanes[l].settings.roles.allow k = true ∧ r = k.block (.lane l) latch b v ∧ TakesFrom c u l k latch

/-- The answer to a request taken at the port: a refusal, or what the block of its kind answers (R153). -/
def PortServed (c : Instr) (v : State) (r : State × Answer) : Prop :=
  (∃ code, r = refuse code v) ∨
  ∃ k tag b, c.request = some (.ops tag b, k) ∧ k.laneOnly = false ∧ r = k.block .ops v.now b v

/-- The port once it has taken the frame of a WRITE (R152). -/
def State.written (s : State) : State := { s with ops := { s.ops with lastWrite := .taken, spi := none } }

/-- What a command can do to a running part, from the state at its instant. -/
inductive Works (c : Instr) (u : State) : State → Prop
  | follows {t : State} (h : Follow u t) : Works c u t
  | saves {m t : State} (hc : (∃ dt p, (∃ edge lines error, c = .pulseEdge dt p edge lines error) ∨
      ∃ chars framing, c = .announcement dt p chars framing)) (h : Follow u m) (h' : Saves m t) : Works c u t
  | settles {dt : Nat} {i : Fin 64} {x : Call} (hc : c = .settleExpiry dt i) (hx : u.slots[i] = some x)
      (hp : x.phase = .settling) : Works c u (u.settleCall i x)
  | receives {t : State} {l : Fin 16} {f : Lane → Lane} (h : u.lanes[l].Moves (f u.lanes[l])) (h' : Calm (u.onLane l f) t) :
      Works c u t
  | takes {l : Fin 16} {f : Lane → Lane} {r : State × Answer} {kind : Byte} {tag : Tag}
      (h : u.lanes[l].Ready (f u.lanes[l])) (hr : LaneServed c u l (u.onLane l f) r) :
      Works c u (r.1.onLane l (Lane.join (.reply { kind, tag, code := r.2.code, ind := r.2.ind, body := r.2.body })))
  | takesWrite {r : State × Answer} {kind : Byte} {tag : Tag} (hr : PortServed c u.written r) :
      Works c u (State.holdReply kind tag r)
  | transfers {dt : Nat} {part : OpsTransfer} (hc : c = .opsRead dt part) : Works c u (opsTransfer part u)
  | restarts (hc : c.restarts = true) : Works c u (u.written.beginRun .resetRequest)

theorem Works.calm {c : Instr} {u t : State} (h : Calm u t) : Works c u t := .follows (.calm h)

theorem Works.refl (c : Instr) (u : State) : Works c u u := .calm (.refl u)

theorem Works.of_marked {c : Instr} {u t : State} (hc : (∃ dt p, (∃ edge lines error, c = .pulseEdge dt p edge lines error) ∨
    ∃ chars framing, c = .announcement dt p chars framing)) (h : Marked u t) : Works c u t := by
  obtain ⟨m, hm, rfl | ht⟩ := h
  · exact .follows hm
  · exact .saves hc hm ht

/-! ### Frames on a lane (R67 to R71, R78) -/

theorem takeHead_full {l : Fin 16} {s : State} (h : 8 ≤ s.lanes[l].replies) (answer : Request → State → State × Answer) :
    takeHead l answer s = s := by
  obtain h' | ⟨q, rest, r, -, -, hn, -⟩ := takeHead_cases l answer s
  · exact h'
  · omega

theorem takeHead_empty {l : Fin 16} {s : State} (h : s.lanes[l].queue = []) (answer : Request → State → State × Answer) :
    takeHead l answer s = s := by
  obtain h' | ⟨q, rest, r, hq, -⟩ := takeHead_cases l answer s
  · exact h'
  · rw [h] at hq; cases hq

theorem takeHead_taken {l : Fin 16} {s : State} {q : Request} {rest : List Request} (hq : s.lanes[l].queue = q :: rest)
    (hup : s.lanes[l].up = true) (hn : s.lanes[l].replies < 8) (answer : Request → State → State × Answer) :
    takeHead l answer s =
      (answer q (s.onLane l fun n => { n with queue := rest })).1.onLane l (Lane.join (.reply
        { kind := q.kind, tag := q.tag, code := (answer q (s.onLane l fun n => { n with queue := rest })).2.code
          ind := (answer q (s.onLane l fun n => { n with queue := rest })).2.ind
          body := (answer q (s.onLane l fun n => { n with queue := rest })).2.body })) := by
  simp only [takeHead, hq]
  exact if_pos ⟨hup, hn⟩

section
variable {c : Instr} {u : State} {l : Fin 16}

/-- The end of a request frame, where the answer to the request that it carries is served (R68, R70, R71). -/
theorem Works.requestEnds {kind : Byte} {tag : Tag} {payload : List Byte} {answer : Request → State → State × Answer}
    (hans : ∀ latch v, u.lanes[l].rxLatch = some latch → LaneServed c u l v (answer { latch, kind, tag, payload } v)) :
    Works c u (requestEnds l kind tag payload answer u) := by
  obtain h | ⟨latch, hup, hl, h⟩ := requestEnds_cases l kind tag payload answer u
  · rw [h]; exact .refl c u
  · obtain ⟨-, h⟩ | ⟨hq, h⟩ | ⟨hq, h⟩ := h
    · rw [h]; exact .receives (.frameError hup) (.refl _)
    · rw [h]; exact .receives (.enqueue hup (.inl hq) _) (.refl _)
    · by_cases hn : u.lanes[l].replies < 8
      · by_cases hw : payload.length ≤ 248
        · rw [requestEnds_at_once hup hl hq hn kind tag hw answer]
          exact .takes (.spent hup hq hn) (hans latch _ hl)
        · have hlong : Machine.requestEnds l kind tag payload answer u = u.onLane l Lane.frameError := by
            simp only [Machine.requestEnds, laneFrame, hup, hl]
            exact if_pos (Nat.not_le.1 hw)
          rw [hlong]
          exact .receives (.frameError hup) (.refl _)
      · have hfull : 8 ≤ (u.onLane l (Lane.enqueue { latch, kind, tag, payload })).lanes[l].replies := by
          have hr : ∀ n : Lane, (n.enqueue { latch, kind, tag, payload }).replies = n.replies := by
            intro n
            unfold Lane.enqueue
            split <;> rfl
          rw [State.onLane_same, hr]
          exact Nat.not_lt.1 hn
        rw [h, takeHead_full hfull]
        exact .receives (.enqueue hup (.inr (Nat.not_lt.1 hn)) _) (.refl _)

theorem LaneServed.of_laneAnswer {v : State} {k : Kind} {q : Request} (hc : TakesFrom c u l k q.latch) :
    LaneServed c u l v (laneAnswer k k.block l q v) := by
  obtain h | h | ⟨-, hr, h⟩ := laneAnswer_cases k k.block l q v
  · exact .inl ⟨_, h⟩
  · exact .inl ⟨_, h⟩
  · exact .inr ⟨k, _, _, hr, h, hc⟩

theorem LaneServed.of_headAnswer {v : State} {q : Request} (hc : ∀ k, TakesFrom c u l k q.latch) :
    LaneServed c u l v (headAnswer l q v) := by
  obtain h | ⟨k, -, h⟩ := headAnswer_cases l q v
  · exact .inl ⟨_, h⟩
  · rw [h]; exact .of_laneAnswer (hc k)

theorem Works.echoEnds (l : Fin 16) (tag : Tag) (payload : List Byte) : Works c u (echoEnds l tag payload u) := by
  by_cases hw : payload.length ≤ 248
  · exact .calm (.echoEnds u l tag payload hw)
  · obtain h | ⟨latch, hup, -, ⟨-, h⟩ | ⟨hs, -⟩⟩ := laneFrame_cases l payload
      (fun latch s => (s.onLane l fun n => { n with rxLatch := none }).classifyEcho l latch tag payload) u
    · unfold Machine.echoEnds
      rw [h]
      exact .refl c u
    · unfold Machine.echoEnds
      rw [h]
      exact .receives (.frameError hup) (.refl _)
    · exact absurd hs hw

theorem Works.frameEnds {dt : Nat} {bytes : List Byte} {err : Bool} (hc : c = .frameEnd dt l bytes err) :
    Works c u (frameEnds l bytes err u) := by
  unfold Machine.frameEnds
  split
  · next hup hl =>
    split
    · exact .receives (.frameError hup) (.refl _)
    · split
      · exact .echoEnds l _ _
      · exact .requestEnds fun latch v hlatch => .of_headAnswer fun k => .inl ⟨.inr ⟨dt, bytes, err, hc⟩, hlatch⟩
  · exact .refl c u

/-- The head of the transmit queue leaves, and one entry of its share is free (R78). -/
theorem Lane.replies_cons {n : Lane} {f : TxFrame} {rest : List TxFrame} (h : n.tx = f :: rest) :
    n.replies = rest.countP TxFrame.isReply + (if f.isReply then 1 else 0) ∧
    n.notices = rest.countP (fun f => !f.isReply) + (if f.isReply then 0 else 1) := by
  simp only [Lane.replies, Lane.notices, h, List.countP_cons]
  cases f.isReply <;> simp

theorem Works.headLeaves {dt : Nat} (hc : c = .frameLeaves dt l) : Works c u (headLeaves l u) := by
  unfold Machine.headLeaves
  split
  · exact .refl c u
  · next f rest htx =>
    split
    · next h =>
      have hup : u.lanes[l].up = true := (Bool.and_eq_true_iff.1 h).1
      have hdown : ∀ {P : Prop}, u.lanes[l].up = false → P := fun h => Bool.noConfusion (hup.symm.trans h)
      obtain ⟨hrep, hnot⟩ := Lane.replies_cons htx
      have hsub : ∀ g ∈ rest, g ∈ u.lanes[l].tx := fun g hg => htx ▸ List.mem_cons_of_mem f hg
      dsimp only
      split
      · next hf =>
        rw [if_pos hf] at hrep hnot
        cases hq : u.lanes[l].queue with
        | nil =>
          rw [takeHead_empty (by rw [State.onLane_same]; exact hq)]
          refine .receives (f := fun n => { n with tx := rest, linkOut := some f.bytes }) ?_ (.refl _)
          refine ⟨fun ⟨h1, h2, h3, h4, _, _⟩ => ⟨h1, ?_, ?_, h4, fun h => absurd hq h, hdown⟩, rfl, rfl, hsub⟩
          · simp only [Lane.replies]; omega
          · simp only [Lane.notices]; omega
        | cons q waiting =>
          by_cases hn : rest.countP TxFrame.isReply < 8
          · rw [takeHead_taken (q := q) (rest := waiting) (by rw [State.onLane_same]; exact hq)
              (by rw [State.onLane_same]; exact hup) (by rw [State.onLane_same]; exact hn), State.onLane_onLane]
            refine .takes (f := fun n => { n with tx := rest, linkOut := some f.bytes, queue := waiting }) ?_
              (.of_headAnswer fun k => .inr ⟨⟨dt, hc⟩, q, waiting, hq, rfl⟩)
            refine ⟨hup, fun ⟨h1, h2, h3, h4, h5, _⟩ => ?_, rfl, rfl, hsub⟩
            have h8 := h5 (by rw [hq]; exact List.cons_ne_nil _ _)
            rw [hq] at h1
            simp only [List.length_cons] at h1
            refine ⟨?_, ?_, ?_, h4, fun _ => ?_, hup⟩
            · show waiting.length ≤ 8
              omega
            · simp only [Lane.replies]; omega
            · simp only [Lane.notices]; omega
            · simp only [Lane.replies]; omega
          · rw [takeHead_full (by rw [State.onLane_same]; exact Nat.not_lt.1 hn)]
            refine .receives (f := fun n => { n with tx := rest, linkOut := some f.bytes }) ?_ (.refl _)
            exact ⟨fun ⟨_, h2, _⟩ => by omega, rfl, rfl, hsub⟩
      · next hf =>
        rw [if_neg hf] at hrep hnot
        refine .receives (f := fun n => { n with tx := rest, linkOut := some f.bytes }) ?_ (.refl _)
        refine ⟨fun ⟨h1, h2, h3, h4, h5, _⟩ => ⟨h1, ?_, ?_, h4, fun hq => ?_, hdown⟩, rfl, rfl, hsub⟩
        · simp only [Lane.replies]; omega
        · simp only [Lane.notices]; omega
        · have := h5 hq
          simp only [Lane.replies]; omega
    · exact .refl c u

/-! ### WRITE transactions (R152, R153) -/

/-- The release of a WRITE, where what follows on a frame taken is one of the cases. -/
theorem Works.opsWrite {payload : List Byte} {act : State → State} (hact : u.ops.reply = none → Works c u (act u.written)) :
    Works c u (opsWrite payload act u) := by
  have hport : ∀ w, Works c u { u with ops := { u.ops with lastWrite := w, spi := none } } := fun w =>
    .calm (.port _ rfl rfl fun _ h => h)
  obtain ⟨-, h⟩ | ⟨-, h⟩ | ⟨-, h⟩ | ⟨-, hr, -, h⟩ := opsWrite_cases payload act u
  · rw [h]; exact .refl c u
  · rw [h]; exact hport _
  · rw [h]; exact hport _
  · rw [h]; exact hact hr

theorem Works.takeFromOps {k : Kind} {tag : Tag} {payload : List Byte} (hc : c.request = some (.ops tag payload, k)) :
    Works c u (takeFromOps k tag payload k.block u) := by
  refine .opsWrite fun _ => .takesWrite ?_
  obtain h | h | ⟨-, hl, h⟩ := opsAnswer_cases k payload k.block u.written
  · exact .inl ⟨_, h⟩
  · exact .inl ⟨_, h⟩
  · exact .inr ⟨k, tag, payload, hc, hl, h⟩

theorem Works.takeRequest {k : Kind} {src : Source} (hc : c.request = some (src, k)) :
    Works c u (takeRequest k src k.block u) := by
  cases src with
  | lane l tag payload =>
    exact .requestEnds fun latch v hlatch => .of_laneAnswer (.inl ⟨.inl ⟨tag, payload, hc⟩, hlatch⟩)
  | ops tag payload => exact .takeFromOps hc

theorem Works.systemResetTaken {src : Source} (hc : c.request = some (src, .systemReset)) (hr : c.restarts = src.isOps) :
    Works c u (systemResetTaken src u) := by
  cases src with
  | lane l tag payload =>
    exact .requestEnds fun latch v hlatch => LaneServed.of_laneAnswer (k := .systemReset) (.inl ⟨.inl ⟨tag, payload, hc⟩, hlatch⟩)
  | ops tag payload =>
    show Works c u (systemResetAtOps tag payload u)
    refine .opsWrite fun _ => ?_
    split
    · exact .restarts hr
    · exact .takesWrite (.inl ⟨_, rfl⟩)

theorem Works.badFormEnds (src : Source) (kind : Byte) : Works c u (badFormEnds src kind u) := by
  cases src with
  | lane l tag payload =>
    simp only [Machine.badFormEnds]
    split
    · exact .refl c u
    · exact .requestEnds fun _ _ _ => .inl ⟨_, rfl⟩
  | ops tag payload =>
    simp only [Machine.badFormEnds]
    split
    · exact .refl c u
    · exact .opsWrite fun _ => .takesWrite (.inl ⟨_, rfl⟩)

end

/-! ### Every command -/

/-- An event of a running part acts on the state at its instant. -/
theorem atEvent_elim {P : State → Prop} {s t : State} {dt : Nat} {act : State → State} (hp : s.power = .running)
    (h : s.atEvent dt act = .next t) (hact : P (act (s.elapse dt))) : P t := by
  rw [atEvent_running hp] at h
  cases h
  exact hact

theorem exec_works {c : Instr} {s t : State} (hp : s.power = .running) (hc : c.isPower = false) (h : exec c s = .next t) :
    Works c (s.elapse c.dt) t := by
  cases hq : c.request with
  | some q =>
    obtain ⟨src, k⟩ := q
    obtain he | ⟨hr, he⟩ := exec_request hq s
    · rw [he] at h
      exact atEvent_elim hp h (.takeRequest hq)
    · rw [he] at h
      have hk : k = .systemReset ∨ exec c s = s.atEvent c.dt (takeRequest k src k.block) := by
        cases c with
        | systemReset => cases hq; exact .inl rfl
        | echo dt port tag payload =>
          cases port <;> simp only [Instr.request, reduceCtorEq, Option.some.injEq, Prod.mk.injEq] at hq
          obtain ⟨rfl, rfl⟩ := hq
          exact .inr rfl
        | _ =>
          simp only [Instr.request, reduceCtorEq, Option.some.injEq, Prod.mk.injEq] at hq
          all_goals
            obtain ⟨rfl, rfl⟩ := hq
            exact .inr rfl
      obtain rfl | he' := hk
      · exact atEvent_elim hp h (.systemResetTaken hq hr)
      · exact atEvent_elim hp (he'.symm.trans (he.trans h)) (.takeRequest hq)
  | none =>
    cases c with
    | pulseEdge dt p edge lines error =>
      exact atEvent_elim hp h (.of_marked ⟨dt, p, .inl ⟨edge, lines, error, rfl⟩⟩ (.pulseArrives _ p edge lines error))
    | announcement dt p chars framing =>
      exact atEvent_elim hp h (.of_marked ⟨dt, p, .inr ⟨chars, framing, rfl⟩⟩ (.announcementTaken _ p chars framing))
    | announcementCutShort dt p => exact atEvent_elim hp h (.follows (.cutShort _ p))
    | announcementBreak dt p => exact atEvent_elim hp h (.follows (.breakArrives _ p))
    | announceWindowExpiry dt p => exact atEvent_elim hp h (.follows (.announceWindowEnds _ p))
    | silenceExpiry dt p => exact atEvent_elim hp h (.follows (.silenceEnds _ p))
    | slewEnd dt => exact atEvent_elim hp h (.refl _ _)
    | traceSample dt =>
      refine atEvent_elim hp
        (act := fun u => if u.trace.nextSample ≤ u.now then u.sampleAt u.trace.nextSample else u) h (.calm ?_)
      split
      · exact .sampleAt _ _
      · exact .refl _
    | linkUp dt l =>
      refine atEvent_elim hp h ?_
      unfold linkComesUp
      split
      · exact .refl _ _
      · exact .receives (.comeUp _ _) (.raise _ _)
    | linkDown dt l =>
      refine atEvent_elim hp h ?_
      unfold linkGoesDown
      split
      · refine .receives (l := l) (.goDown (s.elapse dt).ops.limits.cmax _) ?_
        unfold State.useWindow
        dsimp only
        split
        · exact (Calm.raise _ _).trans (.raise _ _)
        · exact .raise _ _
      · exact .refl _ _
    | startDelimiter dt l => exact atEvent_elim hp h (.calm (.delimiterArrives _ l))
    | frameEnd dt l bytes err => exact atEvent_elim hp h (.frameEnds rfl)
    | unknownKind dt src kind => exact atEvent_elim hp h (.badFormEnds src kind)
    | frameLeaves dt l => exact atEvent_elim hp h (.headLeaves rfl)
    | probeDeparture dt l => exact atEvent_elim hp h (.calm (.probeLeavesPort _ l))
    | probeIntervalExpiry dt l => exact atEvent_elim hp h (.calm (.intervalExpiry _ l))
    | echoTimeout dt l => exact atEvent_elim hp h (.calm (.echoTimerExpires _ l))
    | echo dt port tag payload =>
      cases port with
      | lane l => exact atEvent_elim hp h (.echoEnds l tag payload)
      | ops => cases hq
    | openExpiry dt i =>
      refine atEvent_elim hp h (.calm (.onDue fun x hx => ?_))
      split
      · next hph => exact .openCall hx hph
      · exact .refl _
    | windowExpiry dt i =>
      refine atEvent_elim hp h (.calm (.onDue fun x hx => ?_))
      split
      · next hph => exact .openWindow hx hph
      · exact .refl _
    | endExpiry dt i =>
      refine atEvent_elim hp h (.calm (.onDue fun x hx => ?_))
      split
      · next hph => exact .takeEnd hx hph
      · exact .refl _
    | settleExpiry dt i =>
      refine atEvent_elim hp h ?_
      unfold State.onDue
      split
      · next x hx =>
        split
        · dsimp only
          split
          · next hph => exact .settles rfl hx hph
          · exact .refl _ _
        · exact .refl _ _
      · exact .refl _ _
    | opsWriteDiscarded dt bytes =>
      refine atEvent_elim hp h (.calm ?_)
      unfold writeDiscarded
      split
      · split
        · exact .port _ rfl rfl fun _ h => h
        · exact .refl _
      · exact .refl _
    | opsWriteBusy dt bytes =>
      refine atEvent_elim hp h (.calm ?_)
      unfold writeBusy
      split
      · split
        · exact .port _ rfl rfl fun _ h => h
        · exact .refl _
      · exact .refl _
    | opsRead dt part => exact atEvent_elim hp h (.transfers rfl)
    | powerOn | resetPinAsserted | runStart | powerLoss | backupSupplyLoss => cases hc
    | _ => cases hq

end Sys2Proof.Machine
end

section
/-! PROOFS. What every command leaves as it was, whatever it does to the references: the relation `Drift`, the answers at the operations
port, and the two ways a law is carried over a step. -/

namespace Sys2Proof.Machine

/-! ### Changes that touch neither a call nor a lane but by calm steps -/

/-- Calm stretches with changes of the timescale, the references and the retained domain between them. -/
inductive Drift : State → State → Prop
  | trans {s t u : State} (h : Drift s t) (h' : Drift t u) : Drift s u
  | calm {s t : State} (h : Calm s t) : Drift s t
  | clock {s : State} (ts : Timescale) (rs : Vector RefRecord 4) : Drift s { s with ts := ts, refs := rs }
  | save {s : State} (ret : Retained) : Drift s { s with retained := ret }

theorem Drift.refl (s : State) : Drift s s := .calm (.refl s)

theorem Drift.undisturbed {s t : State} (h : Drift s t) : Undisturbed s t := by
  induction h with
  | trans _ _ h h' => exact h.trans h'
  | calm h => exact h.undisturbed
  | clock | save => exact ⟨rfl, rfl, rfl, rfl, fun _ h => h⟩

/-- A law of the lanes, the calls and the port is kept by a drift where calm stretches keep it. -/
theorem Drift.law {P : State → Prop} (hcalm : ∀ {s t}, Calm s t → P s → P t)
    (hclock : ∀ {s} (ts : Timescale) (rs : Vector RefRecord 4) (ret : Retained),
      P s → P { s with ts := ts, refs := rs, retained := ret })
    {s t : State} (h : Drift s t) (hs : P s) : P t := by
  induction h with
  | trans _ _ h h' => exact h' (h hs)
  | calm h => exact hcalm h hs
  | @clock s ts rs => exact hclock ts rs s.retained hs
  | @save s ret => exact hclock s.ts s.refs ret hs

theorem Drift.onRef (s : State) (p : Fin 4) (f : RefRecord → RefRecord) : Drift s (s.onRef p f) := .clock s.ts _

theorem Drift.clearDisputes (s : State) : Drift s s.clearDisputes := .clock s.ts _

theorem Drift.setTs (s : State) (ts : Timescale) : Drift s { s with ts := ts } := .clock ts s.refs

theorem Drift.countSwitch (s : State) : Drift s s.countSwitch := .calm (.trace _ fun _ => .inl rfl)

theorem Drift.countHoldover (s : State) : Drift s s.countHoldover := .calm (.trace _ fun _ => .inl rfl)

theorem Drift.raise (s : State) (a : Alert) : Drift s (s.raise a) := .calm (.raise s a)

theorem Drift.evaluate (s : State) (t : Nat) : Drift s (s.evaluate t) := .calm (.evaluate s t)

theorem Drift.becomeActive (s : State) (p : Fin 4) : Drift s (s.becomeActive p) :=
  ((Drift.onRef s p _).trans (.raise _ _)).trans (.countSwitch _)

theorem Drift.changeState (s : State) (st : TimescaleState) : Drift s (s.changeState st) := (Drift.setTs s _).trans (.evaluate _ _)

theorem Drift.loseActive (s : State) : Drift s s.loseActive := by
  unfold State.loseActive
  dsimp only
  refine (Drift.clearDisputes s).trans ?_
  split
  · refine (Drift.setTs _ s.ts.dropAnchor).trans ?_
    split
    · exact .becomeActive _ _
    · exact .changeState _ _
  · exact (((Drift.setTs _ s.ts.dropAnchor).trans (.raise _ _)).trans (.countHoldover _)).trans (.changeState _ _)
  · exact .refl _
  · exact .refl _

theorem Follow.drift {s t : State} (h : Follow s t) : Drift s t := by
  induction h with
  | trans _ _ h h' => exact h.trans h'
  | calm h => exact .calm h
  | records rs => exact .clock _ rs
  | steps | slews | configures => exact .setTs _ _
  | starts p => exact (Drift.becomeActive _ p).trans (.changeState _ _)
  | loses p f => exact (Drift.onRef _ p f).trans (.loseActive _)
  | fails p c => exact ((Drift.onRef _ p _).trans (.raise _ _)).trans (.loseActive _)

theorem Drift.saveRate (s : State) : Drift s s.saveRate := .save _

theorem Drift.applyLocked (s : State) (p : Fin 4) (m : Mark) (θ : Int) : Drift s (s.applyLocked p m θ) :=
  (Drift.setTs s _).trans (.saveRate _)

theorem State.applyFirstMark_of_holdover {s : State} (h : s.ts.state = .holdover) (p : Fin 4) (m : Mark) (θ : Int) :
    s.applyFirstMark p m θ =
      (({ s with ts := { s.ts.dropAnchor with state := .locked } }).applyLocked p m θ).evaluate s.ts.ns := by
  simp only [State.applyFirstMark, h, State.now, State.applyLocked, Timescale.slewTo, Timescale.replacePhase, Timescale.updateRate]
  rfl

theorem State.applyFirstMark_of_locked {s : State} (h : s.ts.state = .locked) (p : Fin 4) (m : Mark) (θ : Int) :
    s.applyFirstMark p m θ = ({ s with ts := s.ts.dropAnchor }).applyLocked p m θ := by
  simp only [State.applyFirstMark, h]

theorem Saves.drift {s t : State} (h : Saves s t) : Drift s t := by
  cases h with
  | locks => exact (((Drift.setTs s _).trans (.saveRate _)).trans (.raise _ _)).trans (.changeState _ _)
  | applies p m θ => exact .applyLocked s p m θ
  | returns p m θ _ hh =>
    refine (Drift.becomeActive s p).trans ?_
    rw [State.applyFirstMark_of_holdover (s := s.becomeActive p) hh]
    exact ((Drift.setTs _ _).trans (.applyLocked _ p m θ)).trans (.evaluate _ _)
  | reverts p old m θ _ h =>
    rw [State.applyFirstMark_of_locked (by exact h)]
    exact (((Drift.onRef s old _).trans (.clearDisputes _)).trans (.becomeActive _ p)).trans
      ((Drift.setTs _ _).trans (.applyLocked _ p m θ))

theorem Drift.resyncSelect (s : State) : Drift s s.resyncSelect := by
  unfold State.resyncSelect
  dsimp only
  refine (Drift.clearDisputes s).trans ?_
  split
  · exact .refl _
  · next p _ =>
    split
    · exact .refl _
    · split
      · exact (Drift.onRef _ _ _).trans (.becomeActive _ p)
      · exact .becomeActive _ p

theorem Drift.resyncTake (s : State) : Drift s s.resyncTake :=
  ((Drift.resyncSelect s).trans (.setTs _ _)).trans (.changeState _ _)

/-! ### The answers at the operations port -/

/-- What the answer to a request taken at the port does to the state: references and the timescale follow, or one of the four requests
that reach further is carried out (R19, R156, R160, R165). -/
inductive PortWorks (c : Instr) (v : State) : State → Prop
  | follows {t : State} (h : Follow v t) : PortWorks c v t
  | resyncs {dt : Nat} {tag : Tag} {b : List Byte} (hc : c = .resync dt (.ops tag b)) (hs : v.inService = true)
      (hl : v.anyLive = false) : PortWorks c v v.resyncTake
  | limits (d : DeviceLimits) (h : (v.ops.limits.movesSettle d && v.anyLive) = false) :
      PortWorks c v { v with ops := { v.ops with limits := d } }
  | alerts {dt : Nat} {tag : Tag} {b : List Byte} (hc : c = .readAlerts dt (.ops tag b)) :
      PortWorks c v { v with ops := { v.ops with alerts := 0 } }
  | retained {dt : Nat} {tag : Tag} {b : List Byte} (hc : c = .retainedWrite dt (.ops tag b)) (ret : Retained) :
      PortWorks c v { v with retained := ret }

theorem Instr.eq_of_request_resync {c : Instr} {src : Source} (h : c.request = some (src, .resync)) : c = .resync c.dt src := by
  cases c with
  | resync => cases h; rfl
  | echo _ port => cases port <;> cases h
  | _ => cases h

theorem Instr.eq_of_request_readAlerts {c : Instr} {src : Source} (h : c.request = some (src, .readAlerts)) :
    c = .readAlerts c.dt src := by
  cases c with
  | readAlerts => cases h; rfl
  | echo _ port => cases port <;> cases h
  | _ => cases h

theorem Instr.eq_of_request_retainedWrite {c : Instr} {src : Source} (h : c.request = some (src, .retainedWrite)) :
    c = .retainedWrite c.dt src := by
  cases c with
  | retainedWrite => cases h; rfl
  | echo _ port => cases port <;> cases h
  | _ => cases h

theorem PortServed.works {c : Instr} {v : State} {r : State × Answer} (h : PortServed c v r) : PortWorks c v r.1 := by
  obtain ⟨code, rfl⟩ | ⟨k, tag, b, hc, hl, rfl⟩ := h
  · exact .follows (.refl v)
  · by_cases hk : k.calm = true
    · exact .follows (.calm (k.block_calm hk .ops (fun _ h => nomatch h) v.now b))
    · cases k with
      | stamp | stampKeyed => cases hl
      | setTimescale => exact .follows (.setTimescaleBlock .ops v.now b v)
      | setReference => exact .follows (.setReferenceBlock .ops v.now b v)
      | armReference => exact .follows (.armReferenceBlock .ops v.now b v)
      | disableReference => exact .follows (.disableReferenceBlock .ops v.now b v)
      | setDeviceLimits =>
        simp only [Kind.block, setDeviceLimitsBlock]
        split
        · exact .follows (.refl v)
        · split
          · exact .follows (.refl v)
          · next d _ h => exact .limits d (Bool.eq_false_iff.2 h)
      | resync =>
        simp only [Kind.block, resyncBlock]
        split
        · exact .follows (.refl v)
        · next hs =>
          split
          · exact .follows (.refl v)
          · next hlive => exact .resyncs (Instr.eq_of_request_resync hc) (by simpa using hs) (by simpa using hlive)
      | readAlerts => exact .alerts (Instr.eq_of_request_readAlerts hc)
      | retainedWrite =>
        simp only [Kind.block, retainedWriteBlock]
        split
        · exact .follows (.refl v)
        · split
          · exact .follows (.refl v)
          · split
            · exact .follows (.refl v)
            · exact .retained (Instr.eq_of_request_retainedWrite hc) _
      | _ => exact absurd rfl hk

/-- The answer to a request taken from an UP lane is calm, or issues a stamp (R73). -/
theorem LaneServed.works {c : Instr} {u v : State} {l : Fin 16} {r : State × Answer} (hup : v.lanes[l].up = true)
    (h : LaneServed c u l v r) :
    Calm v r.1 ∨ ∃ k latch, (k = .stamp ∨ k = .stampKeyed) ∧ TakesFrom c u l k latch ∧ Stamped l latch v r.1 := by
  obtain ⟨code, rfl⟩ | ⟨k, latch, b, hr, rfl, hc⟩ := h
  · exact .inl (.refl v)
  · obtain h | ⟨hk, h⟩ := Kind.block_of_lane hr hup latch b
    · exact .inl h
    · exact .inr ⟨k, latch, hk, hc, h⟩

/-! ### Power and reset (R162, R163) -/

/-- What a command of power or reset does: the pins and the contents of the retained domain change, or every block takes its reset
value. -/
theorem exec_power {c : Instr} (hc : c.isPower = true) (s : State) :
    ∃ t, exec c s = .next t ∧
      ((∃ ret pin backup, t = { s with retained := ret, resetPin := pin, backup := backup }) ∨
       ∃ ret power pin backup,
        t = { State.blocksAtReset ret s with power := power, resetPin := pin, backup := backup }) := by
  cases c with
  | powerOn =>
    simp only [exec, execPowerOn]
    split
    · exact ⟨_, rfl, .inr ⟨_, _, s.resetPin, _, rfl⟩⟩
    · exact ⟨_, rfl, .inl ⟨_, _, _, rfl⟩⟩
    · exact ⟨_, rfl, .inl ⟨_, _, _, rfl⟩⟩
  | resetPinAsserted =>
    simp only [exec, execResetPinAsserted]
    split
    · exact ⟨_, rfl, .inr ⟨_, _, _, s.backup, rfl⟩⟩
    · exact ⟨_, rfl, .inl ⟨s.retained, _, s.backup, rfl⟩⟩
    · exact ⟨_, rfl, .inl ⟨s.retained, _, s.backup, rfl⟩⟩
  | runStart =>
    simp only [exec, execRunStart]
    split
    · exact ⟨_, rfl, .inr ⟨_, _, _, s.backup, rfl⟩⟩
    · exact ⟨_, rfl, .inl ⟨_, _, _, rfl⟩⟩
    · exact ⟨_, rfl, .inl ⟨_, _, _, rfl⟩⟩
  | powerLoss =>
    simp only [exec, execPowerLoss]
    split
    · exact ⟨_, rfl, .inl ⟨_, _, _, rfl⟩⟩
    · exact ⟨_, rfl, .inr ⟨_, _, s.resetPin, s.backup, rfl⟩⟩
    · exact ⟨_, rfl, .inr ⟨_, _, s.resetPin, s.backup, rfl⟩⟩
  | backupSupplyLoss =>
    simp only [exec, execBackupSupplyLoss]
    split
    · exact ⟨_, rfl, .inl ⟨_, s.resetPin, _, rfl⟩⟩
    · exact ⟨_, rfl, .inl ⟨s.retained, s.resetPin, _, rfl⟩⟩
    · exact ⟨_, rfl, .inl ⟨s.retained, s.resetPin, _, rfl⟩⟩
  | _ => cases hc

/-! ### Laws that every step keeps -/

/-- The fields that no law speaks of are free. -/
def State.LawOfBlocks (P : State → Prop) : Prop :=
  ∀ (s : State) (ret : Retained) (power : Power) (pin backup : Bool) (pending : List Instr),
    P s → P { s with retained := ret, power := power, resetPin := pin, backup := backup, pending := pending }

/-- A law of the blocks that holds at reset, as time passes and over the work of every command is kept by every step. -/
theorem step_keeps {P : State → Prop} (hfree : State.LawOfBlocks P) (hreset : ∀ ret s, P (State.blocksAtReset ret s))
    (helapse : ∀ s dt, P s → P (s.elapse dt)) (hworks : ∀ c u t, Works c u t → P u → P t)
    {s t : State} (hs : P s) (h : step s = .next t) : P t := by
  cases hq : s.pending with
  | nil =>
    rw [step_of_nil hq] at h
    exact atEvent_keeps hs (helapse s 1 hs) h
  | cons c rest =>
    rw [step_of_cons hq] at h
    have hs' : P { s with pending := rest } := hfree s s.retained s.power s.resetPin s.backup rest hs
    cases hc : c.isPower with
    | true =>
      obtain ⟨t', he, ⟨ret, pin, backup, rfl⟩ | ⟨ret, power, pin, backup, rfl⟩⟩ := exec_power hc { s with pending := rest }
      · cases he.symm.trans h
        exact hfree s ret s.power pin backup rest hs
      · cases he.symm.trans h
        exact hfree _ ret power pin backup rest (hreset ret _)
    | false =>
      by_cases hp : s.power = .running
      · exact hworks c _ t (exec_works (by exact hp) hc h) (helapse _ _ hs')
      · cases (exec_still (s := { s with pending := rest }) hc (by exact hp)).symm.trans h
        exact hs'

/-! ### No command stops the part (O3) -/

theorem Calm.pending {s t : State} (h : Calm s t) : t.pending = s.pending := h.undisturbed.pending

theorem Stamped.calm {l : Fin 16} {tArr : Nat} {s t : State} (h : Stamped l tArr s t) :
    Calm ((s.ageLane l).onLane l (Lane.issue (s.datedOn l tArr))) t := h

theorem Stamped.undisturbed {l : Fin 16} {tArr : Nat} {s t : State} (h : Stamped l tArr s t) : Undisturbed s t := by
  have hissue : Undisturbed (s.ageLane l) ((s.ageLane l).onLane l (Lane.issue (s.datedOn l tArr))) :=
    ⟨rfl, rfl, rfl, rfl, fun _ h => h⟩
  exact ((Calm.ageLane s l).undisturbed.trans hissue).trans h.calm.undisturbed

theorem PortWorks.pending {c : Instr} {v t : State} (h : PortWorks c v t) : t.pending = v.pending := by
  induction h with
  | follows h => exact h.drift.undisturbed.pending
  | resyncs => exact (Drift.resyncTake _).undisturbed.pending
  | limits | alerts | retained => rfl

theorem Works.pending {c : Instr} {u t : State} (h : Works c u t) : t.pending = u.pending := by
  cases h with
  | follows h => exact h.drift.undisturbed.pending
  | saves _ h h' => exact h'.drift.undisturbed.pending.trans h.drift.undisturbed.pending
  | settles | restarts => rfl
  | receives _ h => exact h.pending
  | takes hready hr =>
    obtain h | ⟨k, latch, -, -, h⟩ := LaneServed.works (by rw [State.onLane_same]; exact hready.up) hr
    · exact h.pending
    · exact h.undisturbed.pending
  | takesWrite hr => exact hr.works.pending
  | @transfers dt part hc =>
    unfold opsTransfer
    split
    · rfl
    · split <;> rfl
    · split <;> rfl

/-- Settles O3. -/
theorem everyCommandAnswersNextAndKeepsTheQueue : Obligations.EveryCommandAnswersNextAndKeepsTheQueue := by
  intro c s
  cases hc : c.isPower with
  | true =>
    obtain ⟨t, he, ⟨ret, pin, backup, rfl⟩ | ⟨ret, power, pin, backup, rfl⟩⟩ := exec_power hc s
    · exact ⟨_, he, rfl⟩
    · exact ⟨_, he, rfl⟩
  | false =>
    by_cases hp : s.power = .running
    · obtain ⟨act, he⟩ := exec_eq_atEvent hc
      have hn : exec c s = .next (act (s.elapse c.dt)) := (he s).trans (atEvent_running hp _ _)
      exact ⟨_, hn, (exec_works hp hc hn).pending⟩
    · exact ⟨s, exec_still hc hp, rfl⟩

end Sys2Proof.Machine
end

section
/-! PROOFS. The advance of exchange time (R1 to R3), and the way a law of the blocks other than the lanes is carried over a command. -/

namespace Sys2Proof.Machine

/-! ### The advance (R1 to R3) -/

/-- The nominal nanoseconds by which the raw count advances: none past its largest value (assumption 6). -/
def Timescale.span (dt : Nat) (t : Timescale) : Nat := min dt (maxNs - t.raw)

/-- The units that exchange time gains over `d` nominal nanoseconds, the drain of S with them (R2, R3). -/
def Timescale.gain (d : Nat) (t : Timescale) : Int := d * (unit + t.rate) + t.drain d

/-- Exchange time, in units, after `dt` nominal nanoseconds. -/
def Timescale.reached (dt : Nat) (t : Timescale) : Nat := (min (t.total + t.gain (t.span dt)) (maxNs * unit)).toNat

theorem Timescale.elapse_eq (dt : Nat) (t : Timescale) :
    t.elapse dt = { t with
      ns := t.reached dt / unit, frac := t.reached dt % unit, raw := t.raw + t.span dt, slew := t.slew - t.drain (t.span dt) } := by
  simp only [Timescale.elapse, Timescale.reached, Timescale.gain, Timescale.span, add_assoc]

theorem Timescale.elapse_total (dt : Nat) (t : Timescale) : (t.elapse dt).total = t.reached dt := by
  rw [Timescale.elapse_eq]
  show ((t.reached dt / unit : Nat) : Int) * unit + (t.reached dt % unit : Nat) = _
  exact_mod_cast Nat.div_add_mod' _ _

theorem TimescaleSettings.ok_iff (c : TimescaleSettings) :
    c.ok = true ↔ (1 ≤ c.lockCount ∧ c.lockCount ≤ 32) ∧ (100 ≤ c.lockLimit ∧ c.lockLimit ≤ 1000000) ∧
      (10000 ≤ c.stepThreshold ∧ c.stepThreshold ≤ 1000000000) ∧ (1000000 ≤ c.rateLimit ∧ c.rateLimit ≤ 500000000) ∧
      (1000000 ≤ c.smax ∧ c.smax ≤ 500000000) ∧ c.gainShift ≤ 10 := by
  simp [TimescaleSettings.ok, Machine.inRange, and_assoc]

section
variable {t : Timescale} (ht : t.inRange)
include ht

theorem Timescale.inRange.smax : t.settings.smax ≤ 500000000 := by
  obtain ⟨-, -, -, -, hs, -⟩ := (t.settings.ok_iff).1 ht.1
  exact hs.2

theorem Timescale.inRange.rate : -500000000 ≤ t.rate := by
  obtain ⟨-, -, -, hr, -, -⟩ := (t.settings.ok_iff).1 ht.1
  have := ht.2.1
  omega

end

theorem Timescale.total_nonneg (t : Timescale) : 0 ≤ t.total := by unfold Timescale.total; positivity

/-- The slew works off no more than Smax for each nominal nanosecond, either way (R3). -/
theorem Timescale.neg_le_drain (d : Nat) (t : Timescale) : -(t.settings.smax * d : Int) ≤ t.drain d := by
  have h0 : (0 : Int) ≤ t.settings.smax * d := by positivity
  unfold Timescale.drain
  split <;> omega

/-- r and the slew together leave exchange time a positive advance (R2 to R4). -/
theorem Timescale.inRange.le_gain {t : Timescale} (ht : t.inRange) (d : Nat) : (d : Int) ≤ t.gain d := by
  have hr := ht.rate
  have hs : ((t.settings.smax * d : Nat) : Int) ≤ 500000000 * d := by
    exact_mod_cast Nat.mul_le_mul_right d ht.smax
  have hd := t.neg_le_drain d
  have hu : (d : Int) * 999500000000 ≤ d * (unit + t.rate) :=
    mul_le_mul_of_nonneg_left (by simp only [unit]; omega) (Int.natCast_nonneg d)
  unfold Timescale.gain
  push_cast at hs
  omega

theorem Timescale.inRange.reached_cast {t : Timescale} (ht : t.inRange) (dt : Nat) :
    (t.reached dt : Int) = min (t.total + t.gain (t.span dt)) (maxNs * unit) := by
  have h0 := t.total_nonneg
  have hg := ht.le_gain (t.span dt)
  refine Int.toNat_of_nonneg (le_min ?_ (by exact_mod_cast Nat.zero_le (maxNs * unit)))
  omega

theorem Timescale.reached_le (dt : Nat) (t : Timescale) : t.reached dt ≤ maxNs * unit := by
  unfold Timescale.reached
  have : (min (t.total + t.gain (t.span dt)) (maxNs * unit)) ≤ ((maxNs * unit : Nat) : Int) := by
    push_cast; exact min_le_right _ _
  omega

theorem Timescale.inRange.total_le {t : Timescale} (ht : t.inRange) : t.total < maxNs * unit + unit := by
  obtain ⟨-, -, hns, hfrac, -⟩ := ht
  have h : t.ns * unit + t.frac < maxNs * unit + unit := Nat.add_lt_add_of_le_of_lt (Nat.mul_le_mul_right _ hns) hfrac
  unfold Timescale.total
  exact_mod_cast h

theorem Timescale.inRange.elapse {t : Timescale} (ht : t.inRange) (dt : Nat) : (t.elapse dt).inRange := by
  obtain ⟨hset, hrate, hns, hfrac, hraw⟩ := ht
  rw [Timescale.elapse_eq]
  refine ⟨hset, hrate, Nat.div_le_of_le_mul ?_, Nat.mod_lt _ (by decide), ?_⟩
  · rw [mul_comm]; exact t.reached_le dt
  · show t.raw + min dt (maxNs - t.raw) ≤ maxNs
    omega

/-- Draining over two stretches is draining over both: S does not change its sign on the way (R3). -/
theorem Timescale.drain_add (a b : Nat) (t : Timescale) (t' : Timescale) (hs : t'.slew = t.slew - t.drain a)
    (hset : t'.settings = t.settings) : t.drain a + t'.drain b = t.drain (a + b) := by
  have ha : (0 : Int) ≤ t.settings.smax * a := by positivity
  have hb : (0 : Int) ≤ t.settings.smax * b := by positivity
  have hab : (t.settings.smax : Int) * ((a + b : Nat) : Int) = t.settings.smax * a + t.settings.smax * b := by push_cast; ring
  unfold Timescale.drain at hs ⊢
  rw [hset, hs, hab]
  split <;> split <;> omega

theorem Timescale.elapse_elapse {t : Timescale} (ht : t.inRange) (a b : Nat) : (t.elapse a).elapse b = t.elapse (a + b) := by
  have ht' := ht.elapse a
  have hraw : (t.elapse a).raw = t.raw + t.span a := by rw [Timescale.elapse_eq]
  have hspan : t.span a + (t.elapse a).span b = t.span (a + b) := by
    have := ht.2.2.2.2
    simp only [Timescale.span] at hraw ⊢
    omega
  have hslew : (t.elapse a).slew = t.slew - t.drain (t.span a) := by rw [Timescale.elapse_eq]
  have hset : (t.elapse a).settings = t.settings := by rw [Timescale.elapse_eq]
  have hrate : (t.elapse a).rate = t.rate := by rw [Timescale.elapse_eq]
  have hdrain : t.drain (t.span a) + (t.elapse a).drain ((t.elapse a).span b) = t.drain (t.span (a + b)) := by
    rw [← hspan]
    exact Timescale.drain_add _ _ t _ hslew hset
  have hgain : t.gain (t.span a) + (t.elapse a).gain ((t.elapse a).span b) = t.gain (t.span (a + b)) := by
    simp only [Timescale.gain, hrate]
    rw [← hdrain, ← hspan]
    push_cast
    ring
  have hreached : (t.elapse a).reached b = t.reached (a + b) := by
    have hg := ht'.le_gain ((t.elapse a).span b)
    have h1 := ht.reached_cast a
    have h2 := ht'.reached_cast b
    have h3 := ht.reached_cast (a + b)
    rw [Timescale.elapse_total] at h2
    omega
  rw [Timescale.elapse_eq b, Timescale.elapse_eq (a + b), hreached, hraw, hslew, sub_sub, hdrain, add_assoc, hspan]
  rw [Timescale.elapse_eq a]

theorem Timescale.inRange.ns_le {t : Timescale} (ht : t.inRange) (dt : Nat) : t.ns ≤ (t.elapse dt).ns := by
  have hg := ht.le_gain (t.span dt)
  have hr := ht.reached_cast dt
  have hns : (t.ns : Int) * unit ≤ maxNs * unit := by exact_mod_cast Nat.mul_le_mul_right _ ht.2.2.1
  have htot : t.total = t.ns * unit + t.frac := rfl
  have h : t.ns * unit ≤ t.reached dt := by
    zify
    omega
  rw [Timescale.elapse_eq]
  exact (Nat.le_div_iff_mul_le (by decide)).2 h

/-- Settles O4: the advance over two stretches, and what the gain of a stretch is at least. -/
theorem exchangeTimeAdvancesWithTheRawCount : Obligations.ExchangeTimeAdvancesWithTheRawCount := by
  refine ⟨fun t a b ht => Timescale.elapse_elapse ht a b, fun t d ht => ⟨ht.ns_le d, fun hd hraw htotal => ?_⟩⟩
  have hspan : t.span d = d := Nat.min_eq_left (by omega)
  have hg := ht.le_gain (t.span d)
  have hr := ht.reached_cast d
  rw [Timescale.elapse_total]
  rw [hspan] at hg hr
  omega

/-- Settles O5: a slew within Smax for every nanosecond of the advance drains whole. -/
theorem slewEndHasMovedTimeByS : Obligations.SlewEndHasMovedTimeByS := by
  intro dt s hp ht hraw hslew htotal
  have hspan : s.ts.span dt = dt := Nat.min_eq_left (by omega)
  have hdrain : s.ts.drain dt = s.ts.slew := by
    have h : (s.ts.slew.natAbs : Int) ≤ s.ts.settings.smax * dt := by exact_mod_cast hslew
    unfold Timescale.drain
    split <;> omega
  have hreached : (s.ts.reached dt : Int) = s.ts.total + dt * (unit + s.ts.rate) + s.ts.slew := by
    have h := ht.reached_cast dt
    rw [hspan, Timescale.gain, hdrain] at h
    omega
  refine ⟨s.elapse dt, atEvent_running hp dt id, (Timescale.elapse_total dt s.ts).trans hreached, ?_⟩
  have he : s.ts.elapse dt = { s.ts with
      ns := (s.ts.elapse dt).ns, frac := (s.ts.elapse dt).frac, raw := s.ts.raw + dt, slew := 0 } := by
    rw [Timescale.elapse_eq, hspan, hdrain, sub_self]
  show ({ s with ts := s.ts.elapse dt } : State) = _
  rw [he]
  rfl

/-! ### Laws of the timescale, the references and the calls over every command -/

/-- The release of a READ changes what is held and shifted out, and no setting (R154). -/
theorem endRead_limits (part : OpsTransfer) (o : OpsPort) : (o.endRead part).limits = o.limits ∧ (o.endRead part).alerts = o.alerts := by
  unfold OpsPort.endRead
  (repeat' split) <;> exact ⟨rfl, rfl⟩

theorem opsTransfer_port (part : OpsTransfer) (s : State) :
    ∃ o, opsTransfer part s = { s with ops := o } ∧ o.limits = s.ops.limits ∧ o.alerts = s.ops.alerts := by
  unfold opsTransfer
  split
  · exact ⟨_, rfl, rfl, rfl⟩
  all_goals
    split
    · exact ⟨_, rfl, endRead_limits _ _⟩
    · exact ⟨s.ops, rfl, rfl, rfl⟩

/-- A law that does not speak of the lanes, the retained domain or the port but for its limits is kept by the work of every command
where it is kept by the stages of the references and the timescale, and by the two requests that reach further. -/
theorem Works.law {P : State → Prop}
    (hfree : ∀ s lanes ret, P s → P { s with lanes := lanes, retained := ret })
    (hops : ∀ s o, o.limits = s.ops.limits → P s → P { s with ops := o })
    (hreset : ∀ ret s, P (State.blocksAtReset ret s)) (hpower : ∀ s power, P s → P { s with power := power })
    (hfollow : ∀ {s t}, Follow s t → P s → P t) (hsaves : ∀ {s t}, Saves s t → P s → P t)
    (hresync : ∀ v, v.inService = true → v.anyLive = false → P v → P v.resyncTake)
    (hlimits : ∀ v d, (v.ops.limits.movesSettle d && v.anyLive) = false → P v → P { v with ops := { v.ops with limits := d } })
    {c : Instr} {u t : State} (h : Works c u t) (hu : P u) : P t := by
  have hcalm : ∀ {s t}, Calm s t → P s → P t := fun h => hfollow (.calm h)
  have hlanes : ∀ (s : State) lanes, P s → P { s with lanes := lanes } := fun s lanes => hfree s lanes s.retained
  have hwritten : P u.written := hops u _ rfl hu
  have hport : ∀ {w}, PortWorks c u.written w → P w := by
    intro w hw
    cases hw with
    | follows h => exact hfollow h hwritten
    | resyncs _ hs hl => exact hresync _ hs hl hwritten
    | limits d h => exact hlimits _ d h hwritten
    | alerts => exact hops u.written _ rfl hwritten
    | retained _ ret => exact hfree u.written u.written.lanes ret hwritten
  cases h with
  | follows h => exact hfollow h hu
  | saves _ h h' => exact hsaves h' (hfollow h hu)
  | settles _ hx hp => exact hlanes _ _ (hcalm (.stage hx (.uncrosses hp)) hu)
  | receives _ h => exact hcalm h (hlanes u _ hu)
  | takes hready hr =>
    refine hlanes _ _ ?_
    obtain h | ⟨k, latch, -, -, h⟩ := LaneServed.works (by rw [State.onLane_same]; exact hready.up) hr
    · exact hcalm h (hlanes u _ hu)
    · exact hcalm h.calm (hlanes _ _ (hcalm (.ageLane _ _) (hlanes u _ hu)))
  | takesWrite hr => exact hops _ _ rfl (hport hr.works)
  | @transfers _ part =>
    obtain ⟨o, ho, hl, -⟩ := opsTransfer_port part u
    rw [ho]
    exact hops u o hl hu
  | restarts => exact hpower _ _ (hreset _ _)

end Sys2Proof.Machine
end

section
/-! PROOFS. The first four laws: exchange time in service, the rate, the ACTIVE reference, and what is live or graded out of service. -/

namespace Sys2Proof.Machine

/-! ### The loss of the active reference, by the timescale's state (R14, R15, R39) -/

theorem State.loseActive_of_locked {s : State} (h : s.ts.state = .locked) :
    s.loseActive = (({ s.clearDisputes with ts := s.ts.dropAnchor }.raise .holdoverEntered).countHoldover).changeState .holdover := by
  simp only [State.loseActive, State.clearDisputes_ts, h]

/-- In ACQUIRING the loss is followed by the best eligible reference, or by none (R14). -/
def State.lostAcquiring (s : State) : State := { s.clearDisputes with ts := s.ts.dropAnchor }

theorem State.loseActive_of_acquiring_some {s : State} (h : s.ts.state = .acquiring) {p : Fin 4}
    (hb : (s.lostAcquiring.best fun q => s.lostAcquiring.eligible q) = some p) : s.loseActive = s.lostAcquiring.becomeActive p := by
  simp only [State.loseActive, State.clearDisputes_ts, h]
  rw [State.lostAcquiring] at hb
  simp only [hb, State.lostAcquiring]

theorem State.loseActive_of_acquiring_none {s : State} (h : s.ts.state = .acquiring)
    (hb : (s.lostAcquiring.best fun q => s.lostAcquiring.eligible q) = none) :
    s.loseActive = s.lostAcquiring.changeState .unset := by
  simp only [State.loseActive, State.clearDisputes_ts, h]
  rw [State.lostAcquiring] at hb
  simp only [hb, State.lostAcquiring]

theorem State.loseActive_of_idle {s : State} (h : s.ts.state = .unset ∨ s.ts.state = .holdover) :
    s.loseActive = s.clearDisputes := by
  obtain h | h := h <;> simp only [State.loseActive, State.clearDisputes_ts, h]

@[simp] theorem State.changeState_ts (st : TimescaleState) (s : State) : (s.changeState st).ts = { s.ts with state := st } := by
  simp [State.changeState]

@[simp] theorem State.changeState_refs (st : TimescaleState) (s : State) : (s.changeState st).refs = s.refs := by
  simp [State.changeState]

@[simp] theorem State.changeState_slots (st : TimescaleState) (s : State) : (s.changeState st).slots = s.slots := by
  simp [State.changeState]

/-- What a loss does to the timescale: its lock count and anchor at most, and its state, which stays in or out of service (R14, R15). -/
theorem State.loseActive_ts (s : State) :
    ∃ st n a, s.loseActive.ts = { s.ts with state := st, lockCount := n, anchor := a } ∧ st.inService = s.inService := by
  cases h : s.ts.state with
  | acquiring =>
    cases hb : s.lostAcquiring.best fun q => s.lostAcquiring.eligible q with
    | some p =>
      refine ⟨.acquiring, 0, none, ?_, by rw [State.inService, h]⟩
      rw [State.loseActive_of_acquiring_some h hb, ← h]
      rfl
    | none =>
      refine ⟨.unset, 0, none, ?_, by rw [State.inService, h]; rfl⟩
      rw [State.loseActive_of_acquiring_none h hb, State.changeState_ts]
      rfl
  | locked =>
    refine ⟨.holdover, 0, none, ?_, by rw [State.inService, h]; rfl⟩
    rw [State.loseActive_of_locked h, State.changeState_ts]
    rfl
  | unset => exact ⟨_, _, _, by rw [State.loseActive_of_idle (.inl h)]; rfl, rfl⟩
  | holdover => exact ⟨_, _, _, by rw [State.loseActive_of_idle (.inr h)]; rfl, rfl⟩

/-! ### First law (R11) -/

/-- What no stage moves in service: exchange time and the raw count. -/
structure Timescale.SameTime (t t' : Timescale) : Prop where
  ns : t'.ns = t.ns
  frac : t'.frac = t.frac
  raw : t'.raw = t.raw

theorem Timescale.SameTime.trans {t t' t'' : Timescale} (h : t.SameTime t') (h' : t'.SameTime t'') : t.SameTime t'' :=
  ⟨h'.ns.trans h.ns, h'.frac.trans h.frac, h'.raw.trans h.raw⟩

theorem Timescale.SameTime.of_eq {t t' : Timescale} (h : t' = t) : t.SameTime t' := by
  subst h; exact ⟨rfl, rfl, rfl⟩

theorem Timescale.SameTime.slewTo (θ : Int) (p : Fin 4) (m : Mark) (t : Timescale) : t.SameTime (t.slewTo θ p m) := by
  unfold Timescale.slewTo Timescale.updateRate
  split <;> exact ⟨rfl, rfl, rfl⟩

theorem Timescale.SameTime.loseActive (s : State) : s.ts.SameTime s.loseActive.ts := by
  obtain ⟨st, n, a, h, -⟩ := s.loseActive_ts
  rw [h]
  exact ⟨rfl, rfl, rfl⟩

/-- In service no stage moves exchange time or leaves service (R11). -/
theorem Follow.in_service {s t : State} (h : Follow s t) (hs : s.inService = true) : s.ts.SameTime t.ts ∧ t.inService = true := by
  induction h with
  | trans _ _ h h' =>
    obtain ⟨h1, h2⟩ := h hs
    obtain ⟨h3, h4⟩ := h' h2
    exact ⟨h1.trans h3, h4⟩
  | calm h => exact ⟨.of_eq h.ts_refs.1, h.inService.trans hs⟩
  | records => exact ⟨.of_eq rfl, hs⟩
  | steps _ _ _ h | slews _ _ _ _ h => rw [State.inService, h] at hs; cases hs
  | starts _ _ h => rw [State.inService, h] at hs; cases hs
  | @loses s p f =>
    obtain ⟨st, n, a, h, hst⟩ := (s.onRef p f).loseActive_ts
    rw [State.inService, h]
    exact ⟨⟨rfl, rfl, rfl⟩, hst.trans hs⟩
  | @fails s p c =>
    obtain ⟨st, n, a, h, hst⟩ := ((s.onRef p (RefRecord.fail c)).raise .referenceFailed).loseActive_ts
    rw [State.inService, h]
    exact ⟨⟨rfl, rfl, rfl⟩, hst.trans hs⟩
  | configures => exact ⟨⟨rfl, rfl, rfl⟩, hs⟩

@[simp] theorem State.changeState_retained (st : TimescaleState) (s : State) : (s.changeState st).retained = s.retained := by
  simp [State.changeState]

theorem State.lock_ts (s : State) : s.lock.ts = { s.ts with lockCount := 0, state := .locked } := by simp [State.lock]

theorem State.lock_retained (s : State) : s.lock.retained = { s.retained with savedRate := s.ts.rate, valid := true } := by
  simp [State.lock]

/-- A stage that saves r leaves the timescale LOCKED, with exchange time as it was (R12, R16, R17, R18). -/
theorem Saves.locked {s t : State} (h : Saves s t) :
    s.ts.SameTime t.ts ∧ t.ts.state = .locked ∧ t.retained.savedRate = t.ts.rate ∧ t.retained.valid = true ∧
      t.ts.lastMark.isSome = true := by
  have happlied : ∀ (u : State) (p : Fin 4) (m : Mark) (θ : Int), u.ts.state = .locked →
      u.ts.SameTime (u.applyLocked p m θ).ts ∧ (u.applyLocked p m θ).ts.state = .locked ∧
      (u.applyLocked p m θ).retained.savedRate = (u.applyLocked p m θ).ts.rate ∧ (u.applyLocked p m θ).retained.valid = true ∧
      (u.applyLocked p m θ).ts.lastMark.isSome = true :=
    fun u p m θ hu => ⟨.slewTo θ p m u.ts, (Timescale.slewTo_state θ p m u.ts).trans hu, rfl, rfl, rfl⟩
  cases h with
  | locks _ hm =>
    rw [State.lock_ts, State.lock_retained]
    exact ⟨⟨rfl, rfl, rfl⟩, rfl, rfl, rfl, hm⟩
  | applies p m θ h => exact happlied s p m θ h
  | returns p m θ _ hh =>
    rw [State.applyFirstMark_of_holdover (by exact hh), State.evaluate_ts, State.evaluate_retained]
    obtain ⟨⟨hns, hfrac, hraw⟩, h⟩ := happlied { s.becomeActive p with ts := { s.ts.dropAnchor with state := .locked } } p m θ rfl
    exact ⟨⟨hns, hfrac, hraw⟩, h⟩
  | reverts p old m θ _ h =>
    rw [State.applyFirstMark_of_locked (by exact h)]
    obtain ⟨⟨hns, hfrac, hraw⟩, h'⟩ :=
      happlied { ((s.onRef old fun r => { r with state := .ready }).clearDisputes).becomeActive p with
        ts := s.ts.dropAnchor } p m θ h
    exact ⟨⟨hns, hfrac, hraw⟩, h'⟩

theorem State.resyncSelect_ts (s : State) : s.resyncSelect.ts = s.ts := by
  unfold State.resyncSelect
  dsimp only
  (repeat' split) <;> rfl

theorem State.resyncTake_ts (s : State) :
    s.resyncTake.ts = { s.ts with
      state := if s.resyncChoice.isSome then .acquiring else .unset, slew := 0, lockCount := 0, anchor := none } := by
  unfold State.resyncTake
  rw [State.changeState_ts]
  show ({ s.resyncSelect.ts.dropAnchor with slew := 0, state := _ } : Timescale) = _
  rw [State.resyncSelect_ts]
  rfl

theorem Stamped.ts_refs {l : Fin 16} {tArr : Nat} {s t : State} (h : Stamped l tArr s t) : t.ts = s.ts ∧ t.refs = s.refs := by
  obtain ⟨hts, hrefs⟩ := h.calm.ts_refs
  obtain ⟨hts', hrefs'⟩ := (Calm.ageLane s l).ts_refs
  exact ⟨hts.trans hts', hrefs.trans hrefs'⟩

/-- From a state in service no command but a restart moves exchange time, and RESYNC alone may leave service (R11, R19). -/
theorem Works.in_service {c : Instr} {u t : State} (h : Works c u t) (hu : u.inService = true) (hc : c.restarts = false) :
    u.ts.SameTime t.ts ∧ (t.inService = true ∨ ∃ dt src, c = .resync dt src) := by
  cases h with
  | follows h =>
    obtain ⟨h1, h2⟩ := h.in_service hu
    exact ⟨h1, .inl h2⟩
  | saves _ h h' =>
    obtain ⟨h1, -⟩ := h.in_service hu
    obtain ⟨h2, h3, -⟩ := h'.locked
    exact ⟨h1.trans h2, .inl (by rw [State.inService, h3]; rfl)⟩
  | @settles _ i x =>
    have hts : (u.settleCall i x).ts = u.ts := by simp [State.settleCall]
    exact ⟨.of_eq hts, .inl (by rw [State.inService, hts]; exact hu)⟩
  | receives _ h => exact ⟨.of_eq h.ts_refs.1, .inl (h.inService.trans hu)⟩
  | takes hready hr =>
    obtain h | ⟨k, latch, -, -, h⟩ := LaneServed.works (by rw [State.onLane_same]; exact hready.up) hr
    · exact ⟨.of_eq h.ts_refs.1, .inl (h.inService.trans hu)⟩
    · exact ⟨.of_eq h.ts_refs.1, .inl (by rw [State.inService, State.onLane_ts, h.ts_refs.1]; exact hu)⟩
  | takesWrite hr =>
    have hw := hr.works
    revert hw
    generalize hx : (_ : State × Answer).1 = w
    intro hw
    have hport : u.ts.SameTime w.ts ∧ (w.inService = true ∨ ∃ dt src, c = .resync dt src) := by
      induction hw with
      | follows h =>
        obtain ⟨h1, h2⟩ := h.in_service (by exact hu)
        exact ⟨h1, .inl h2⟩
      | resyncs hc => exact ⟨by rw [State.resyncTake_ts]; exact ⟨rfl, rfl, rfl⟩, .inr ⟨_, _, hc⟩⟩
      | limits | alerts | retained => exact ⟨⟨rfl, rfl, rfl⟩, .inl hu⟩
    subst hx
    exact hport
  | @transfers _ part =>
    obtain ⟨o, ho, -⟩ := opsTransfer_port part u
    rw [ho]
    exact ⟨⟨rfl, rfl, rfl⟩, .inl hu⟩
  | restarts hr => rw [hc] at hr; cases hr

theorem Instr.isPower_of_restarts {c : Instr} (h : c.restarts = false) : c.isPower = false := by
  simp only [Instr.restarts, Bool.or_eq_false_iff] at h
  exact h.1

theorem State.elapse_inService (s : State) (dt : Nat) : (s.elapse dt).inService = s.inService := rfl

/-- Settles O8. -/
theorem inServiceTimeIsNeverStepped : Obligations.InServiceTimeIsNeverStepped := by
  intro c s t hp hs ht hc h
  obtain ⟨⟨hns, hfrac, hraw⟩, hin⟩ := (exec_works hp (Instr.isPower_of_restarts hc) h).in_service hs hc
  exact ⟨hns, hfrac, hraw, hns ▸ ht.ns_le c.dt, hin⟩

/-! ### Second law (R4) -/

theorem holdRate_natAbs_le (limit : Nat) (r : Int) : (holdRate limit r).natAbs ≤ limit := by
  unfold holdRate
  omega

theorem movedNs_le (θ : Int) (ns : Nat) : movedNs θ ns ≤ maxNs := by
  unfold movedNs
  omega

theorem Timescale.inRange.slewTo {t : Timescale} (ht : t.inRange) (θ : Int) (p : Fin 4) (m : Mark) : (t.slewTo θ p m).inRange := by
  obtain ⟨hset, hrate, hns, hfrac, hraw⟩ := ht
  unfold Timescale.slewTo Timescale.updateRate
  split
  · exact ⟨hset, holdRate_natAbs_le _ _, hns, hfrac, hraw⟩
  · exact ⟨hset, hrate, hns, hfrac, hraw⟩

theorem Timescale.inRange.loseActive {s : State} (ht : s.ts.inRange) : s.loseActive.ts.inRange := by
  obtain ⟨st, n, a, h, -⟩ := s.loseActive_ts
  rw [h]
  exact ht

theorem Follow.inRange {s t : State} (h : Follow s t) (ht : s.ts.inRange) : t.ts.inRange := by
  induction h with
  | trans _ _ h h' => exact h' (h ht)
  | calm h => rw [h.ts_refs.1]; exact ht
  | records => exact ht
  | steps =>
    obtain ⟨hset, hrate, -, hfrac, hraw⟩ := ht
    exact ⟨hset, hrate, movedNs_le _ _, hfrac, hraw⟩
  | slews p m θ => exact ht.slewTo θ p m
  | starts => rw [State.changeState_ts]; exact ht
  | @loses s p f => exact Timescale.inRange.loseActive (s := s.onRef p f) ht
  | @fails s p c => exact Timescale.inRange.loseActive (s := (s.onRef p (RefRecord.fail c)).raise .referenceFailed) ht
  | configures c hc =>
    obtain ⟨-, -, hns, hfrac, hraw⟩ := ht
    exact ⟨hc, holdRate_natAbs_le _ _, hns, hfrac, hraw⟩

theorem Saves.inRange {s t : State} (h : Saves s t) (ht : s.ts.inRange) : t.ts.inRange := by
  cases h with
  | locks => rw [State.lock_ts]; exact ht
  | applies p m θ => exact ht.slewTo θ p m
  | returns p m θ _ hh =>
    rw [State.applyFirstMark_of_holdover (by exact hh), State.evaluate_ts]
    exact Timescale.inRange.slewTo (t := { s.ts.dropAnchor with state := .locked }) ht θ p m
  | reverts p old m θ _ h =>
    rw [State.applyFirstMark_of_locked (by exact h)]
    exact Timescale.inRange.slewTo (t := s.ts.dropAnchor) ht θ p m

theorem Timescale.inRange_atReset (ret : Retained) : (Timescale.atReset ret).inRange := by
  refine ⟨by show TimescaleSettings.ok .atReset = true; decide, ?_, Nat.zero_le _, by show 0 < unit; decide, Nat.zero_le _⟩
  show (warmRate ret).natAbs ≤ _
  unfold warmRate
  split
  · exact holdRate_natAbs_le _ _
  · exact Nat.zero_le _

/-- Settles O9. -/
theorem rateStaysWithinItsLimit : Obligations.RateStaysWithinItsLimit := by
  intro s t ht h
  refine step_keeps (P := fun s => s.ts.inRange) (fun _ _ _ _ _ _ h => h) (fun ret _ => Timescale.inRange_atReset ret)
    (fun s dt h => Timescale.inRange.elapse h dt) (fun c u t hw hu => ?_) ht h
  refine hw.law (P := fun s => s.ts.inRange) (fun _ _ _ h => h) (fun _ _ _ h => h) (fun ret _ => Timescale.inRange_atReset ret)
    (fun _ _ h => h) Follow.inRange Saves.inRange (fun v _ _ hv => ?_) (fun _ _ _ h => h) hu
  rw [State.resyncTake_ts]
  exact hv

/-! ### The best reference by (priority, port) (2.7) -/

theorem State.better_iff (s : State) (p q : Fin 4) : s.better p q = true ↔
    s.refs[p].config.priority < s.refs[q].config.priority ∨
      s.refs[p].config.priority = s.refs[q].config.priority ∧ p < q := by
  simp [State.better]

/-- The better of the best so far and the next candidate. -/
def State.pick (s : State) (acc : Option (Fin 4)) (p : Fin 4) : Option (Fin 4) :=
  match acc with
  | none => some p
  | some q => if s.better p q then some p else some q

theorem State.best_eq_foldl (ok : Fin 4 → Bool) (s : State) :
    s.best ok = ((List.finRange 4).filter ok).foldl s.pick none := rfl

theorem State.foldl_pick_some (s : State) (l : List (Fin 4)) (a : Fin 4) :
    ∃ m, l.foldl s.pick (some a) = some m ∧ (m = a ∨ m ∈ l) ∧ ∀ q, q = a ∨ q ∈ l → q ≠ m → s.better m q = true := by
  induction l generalizing a with
  | nil => exact ⟨a, rfl, .inl rfl, fun q hq hne => by simp_all⟩
  | cons p l ih =>
    have hstep : ∃ b, s.pick (some a) p = some b ∧ (b = a ∨ b = p) ∧ ∀ q, q = a ∨ q = p → q ≠ b → s.better b q = true := by
      unfold State.pick
      dsimp only
      split
      · next h =>
        refine ⟨p, rfl, .inr rfl, fun q hq hne => ?_⟩
        obtain rfl | rfl := hq
        · exact h
        · exact absurd rfl hne
      · next h =>
        refine ⟨a, rfl, .inl rfl, fun q hq hne => ?_⟩
        obtain rfl | rfl := hq
        · exact absurd rfl hne
        · rw [State.better_iff] at h ⊢
          omega
    obtain ⟨b, hb, hmem, hbest⟩ := hstep
    obtain ⟨m, hm, hmem', hbest'⟩ := ih b
    refine ⟨m, by rw [List.foldl_cons, hb, hm], ?_, fun q hq hne => ?_⟩
    · obtain rfl | h := hmem'
      · obtain rfl | rfl := hmem
        · exact .inl rfl
        · exact .inr List.mem_cons_self
      · exact .inr (List.mem_cons_of_mem p h)
    · have hq' : (q = a ∨ q = p) ∨ q ∈ l := by
        obtain h | h := hq
        · exact .inl (.inl h)
        · exact (List.mem_cons.1 h).elim (fun h => .inl (.inr h)) .inr
      obtain hq' | hq' := hq'
      · by_cases hqb : q = b
        · exact hbest' q (.inl hqb) hne
        · have h1 := hbest q hq' hqb
          by_cases hbm : b = m
          · exact hbm ▸ h1
          · have h2 := hbest' b (.inl rfl) hbm
            rw [State.better_iff] at h1 h2 ⊢
            omega
      · exact hbest' q (.inr hq') hne

theorem State.best_eq_none_iff (ok : Fin 4 → Bool) (s : State) : s.best ok = none ↔ ∀ p, ok p = false := by
  rw [State.best_eq_foldl]
  cases hl : (List.finRange 4).filter ok with
  | nil =>
    simp only [List.foldl_nil, true_iff]
    intro p
    simpa using List.filter_eq_nil_iff.1 hl p (List.mem_finRange p)
  | cons a l =>
    obtain ⟨m, hm, -⟩ := s.foldl_pick_some l a
    have ha : ok a = true := List.of_mem_filter (hl ▸ List.mem_cons_self)
    simp only [List.foldl_cons, State.pick, hm, reduceCtorEq, false_iff]
    exact fun h => Bool.noConfusion (ha.symm.trans (h a))

/-- The best is the candidate that is better than every other. -/
theorem State.best_eq_some_iff (ok : Fin 4 → Bool) (s : State) (p : Fin 4) :
    s.best ok = some p ↔ ok p = true ∧ ∀ q, ok q = true → q ≠ p → s.better p q = true := by
  have hfound : ∀ m, s.best ok = some m → ok m = true ∧ ∀ q, ok q = true → q ≠ m → s.better m q = true := by
    intro m hm
    rw [State.best_eq_foldl] at hm
    cases hl : (List.finRange 4).filter ok with
    | nil => rw [hl] at hm; cases hm
    | cons a l =>
      obtain ⟨m', hm', hmem, hbest⟩ := s.foldl_pick_some l a
      rw [hl, List.foldl_cons] at hm
      cases hm'.symm.trans hm
      have hmem' : ∀ q, ok q = true → q = a ∨ q ∈ l := fun q hq =>
        List.mem_cons.1 (hl ▸ List.mem_filter.2 ⟨List.mem_finRange q, hq⟩)
      exact ⟨List.of_mem_filter (hl ▸ List.mem_cons.2 hmem), fun q hq hne => hbest q (hmem' q hq) hne⟩
  refine ⟨hfound p, fun ⟨hp, hbest⟩ => ?_⟩
  cases hb : s.best ok with
  | none =>
    rw [State.best_eq_none_iff] at hb
    exact Bool.noConfusion (hp.symm.trans (hb p))
  | some m =>
    obtain ⟨hm, hbest'⟩ := hfound m hb
    by_cases hpm : p = m
    · rw [hpm]
    · have h1 := hbest m hm (Ne.symm hpm)
      have h2 := hbest' p hp hpm
      rw [State.better_iff] at h1 h2
      omega

end Sys2Proof.Machine
end

section
/-! PROOFS. The third and the fourth law, the rules of the alert set and of the saved rate, and the state at reset. -/

namespace Sys2Proof.Machine

/-! ### Third law (R22) -/

/-- The reference that is ACTIVE, where one is, is this one alone. -/
def State.activeIs (o : Option (Fin 4)) (s : State) : Prop := ∀ q : Fin 4, s.refs[q].state = .active ↔ o = some q

/-- The timescale follows a reference: ACQUIRING or LOCKED. -/
def TimescaleState.follows : TimescaleState → Bool
  | .acquiring | .locked => true
  | .unset | .holdover => false

theorem TimescaleState.follows_iff (st : TimescaleState) : st.follows = true ↔ st = .acquiring ∨ st = .locked := by
  cases st <;> simp [TimescaleState.follows]

theorem State.thirdLaw_iff (s : State) : s.thirdLaw ↔ ∃ o, s.activeIs o ∧ o.isSome = s.ts.state.follows := by
  constructor
  · rintro ⟨hone, hiff⟩
    rw [← TimescaleState.follows_iff] at hiff
    by_cases h : ∃ p : Fin 4, s.refs[p].state = .active
    · obtain ⟨p, hp⟩ := h
      refine ⟨some p, fun q => ⟨fun hq => congrArg some (hone p q hp hq), fun hq => Option.some.inj hq ▸ hp⟩, ?_⟩
      exact (hiff.1 ⟨p, hp⟩).symm
    · refine ⟨none, fun q => ⟨fun hq => absurd ⟨q, hq⟩ h, fun hq => nomatch hq⟩, ?_⟩
      exact (Bool.eq_false_iff.2 fun hf => h (hiff.2 hf)).symm
  · rintro ⟨o, ho, hsome⟩
    refine ⟨fun p q hp hq => Option.some.inj (((ho p).1 hp).symm.trans ((ho q).1 hq)), ?_⟩
    rw [← TimescaleState.follows_iff, ← hsome, Option.isSome_iff_exists]
    exact ⟨fun ⟨p, hp⟩ => ⟨p, (ho p).1 hp⟩, fun ⟨p, hp⟩ => ⟨p, (ho p).2 hp⟩⟩

section
variable {s : State} {o : Option (Fin 4)} {p : Fin 4}

theorem State.activeIs.none_active (h : s.activeIs none) (q : Fin 4) : s.refs[q].state ≠ .active :=
  fun hq => nomatch (h q).1 hq

theorem State.activeIs_none_iff : s.activeIs none ↔ ∀ q : Fin 4, s.refs[q].state ≠ .active :=
  ⟨fun h => h.none_active, fun h q => ⟨fun hq => absurd hq (h q), fun hq => nomatch hq⟩⟩

theorem State.activeIs.clearDisputes (h : s.activeIs o) : s.clearDisputes.activeIs o := fun q => by
  rw [State.refs_clearDisputes]
  exact h q

theorem State.activeIs.becomeActive (h : s.activeIs none) (p : Fin 4) : (s.becomeActive p).activeIs (some p) := fun q => by
  show (s.onRef p fun r => { r with state := .active }).refs[q].state = _ ↔ _
  rw [State.refs_onRef]
  split
  · next hq => exact ⟨fun _ => by rw [hq], fun _ => rfl⟩
  · next hq => exact ⟨fun ha => absurd ha (h.none_active q), fun hp => absurd (Option.some.inj hp).symm hq⟩

/-- The ACTIVE reference's record changed to one that is not ACTIVE leaves none. -/
theorem State.activeIs.onRef (h : s.activeIs (some p)) {f : RefRecord → RefRecord} (hf : (f s.refs[p]).state ≠ .active) :
    (s.onRef p f).activeIs none := State.activeIs_none_iff.2 fun q => by
  rw [State.refs_onRef]
  split
  · exact hf
  · next hq => exact fun ha => hq (Option.some.inj ((h q).1 ha)).symm

/-- A loss leaves the third law: the best eligible reference is ACTIVE in ACQUIRING, and none in UNSET and HOLDOVER (R14, R15). -/
theorem State.activeIs.loseActive (h : s.activeIs none) (hf : s.ts.state.follows = true) : s.loseActive.thirdLaw := by
  rw [State.thirdLaw_iff]
  have hlost : s.lostAcquiring.activeIs none := h.clearDisputes
  cases hst : s.ts.state with
  | acquiring =>
    cases hb : s.lostAcquiring.best fun q => s.lostAcquiring.eligible q with
    | some p =>
      rw [State.loseActive_of_acquiring_some hst hb]
      refine ⟨some p, hlost.becomeActive p, ?_⟩
      show true = s.ts.state.follows
      rw [hf]
    | none =>
      rw [State.loseActive_of_acquiring_none hst hb]
      refine ⟨none, fun q => ?_, by rw [State.changeState_ts]; rfl⟩
      rw [State.changeState_refs]
      exact hlost q
  | locked =>
    rw [State.loseActive_of_locked hst]
    refine ⟨none, fun q => ?_, by rw [State.changeState_ts]; rfl⟩
    rw [State.changeState_refs]
    exact hlost q
  | unset | holdover => rw [hst] at hf; cases hf

/-- The only ACTIVE reference of a state that keeps the third law. -/
theorem State.thirdLaw.activeIs (h : s.thirdLaw) (hp : s.refs[p].state = .active) :
    s.activeIs (some p) ∧ s.ts.state.follows = true := by
  obtain ⟨o, ho, hsome⟩ := (s.thirdLaw_iff).1 h
  obtain rfl := (ho p).1 hp
  exact ⟨ho, hsome.symm⟩

end

theorem Follow.thirdLaw {s t : State} (h : Follow s t) (hs : s.thirdLaw) : t.thirdLaw := by
  induction h with
  | trans _ _ h h' => exact h' (h hs)
  | calm h =>
    obtain ⟨hts, hrefs⟩ := h.ts_refs
    unfold State.thirdLaw
    rw [hts, hrefs]
    exact hs
  | @records s rs h =>
    rw [State.thirdLaw_iff] at hs ⊢
    obtain ⟨o, ho, hsome⟩ := hs
    exact ⟨o, fun q => (h q).trans (ho q), hsome⟩
  | @steps s => exact hs
  | @slews s p m θ n h =>
    rw [State.thirdLaw_iff] at hs ⊢
    obtain ⟨o, ho, hsome⟩ := hs
    refine ⟨o, ho, hsome.trans (congrArg _ ?_)⟩
    exact (Timescale.slewTo_state θ p m s.ts).symm
  | @starts s p h =>
    rw [State.thirdLaw_iff]
    refine ⟨some p, fun q => ?_, by rw [State.changeState_ts]; rfl⟩
    rw [State.changeState_refs]
    exact (State.activeIs_none_iff.2 h).becomeActive p q
  | @loses s p f hp hf =>
    obtain ⟨ho, hfollows⟩ := hs.activeIs hp
    exact State.activeIs.loseActive (s := s.onRef p f) (ho.onRef hf) hfollows
  | @fails s p c hp =>
    obtain ⟨ho, hfollows⟩ := hs.activeIs hp
    exact State.activeIs.loseActive (s := (s.onRef p (RefRecord.fail c)).raise .referenceFailed)
      (ho.onRef (f := RefRecord.fail c) fun h => nomatch h) hfollows
  | configures => exact hs

theorem State.applyLocked_refs (s : State) (p : Fin 4) (m : Mark) (θ : Int) : (s.applyLocked p m θ).refs = s.refs := rfl

theorem Saves.thirdLaw {s t : State} (h : Saves s t) (hs : s.thirdLaw) : t.thirdLaw := by
  have hlocked := h.locked.2.1
  rw [State.thirdLaw_iff, hlocked]
  obtain ⟨o, ho, hsome⟩ := (s.thirdLaw_iff).1 hs
  cases h with
  | locks h =>
    rw [h] at hsome
    exact ⟨o, fun q => by simpa [State.lock] using ho q, hsome⟩
  | applies p m θ h =>
    rw [h] at hsome
    exact ⟨o, ho, hsome⟩
  | returns p m θ h hh =>
    refine ⟨some p, fun q => ?_, rfl⟩
    rw [State.applyFirstMark_of_holdover (by exact hh), State.evaluate_refs]
    exact (State.activeIs_none_iff.2 h).becomeActive p q
  | reverts p old m θ hold h =>
    obtain ⟨hold', -⟩ := hs.activeIs hold
    refine ⟨some p, fun q => ?_, rfl⟩
    rw [State.applyFirstMark_of_locked (by exact h)]
    exact ((hold'.onRef (f := fun r => { r with state := .ready }) fun h => nomatch h).clearDisputes).becomeActive p q

/-! ### RESYNC and the ACTIVE reference (R41) -/

/-- The candidates of a RESYNC are no others once the disputed standings are cleared. -/
theorem State.resyncChoice_clearDisputes (s : State) : s.clearDisputes.resyncChoice = s.resyncChoice := by
  have hok : ∀ p : Fin 4, (s.clearDisputes.refs[p].state == .ready || s.clearDisputes.refs[p].state == .active) =
      (s.refs[p].state == .ready || s.refs[p].state == .active) := fun p => by rw [State.refs_clearDisputes]
  have hbetter : s.clearDisputes.pick = s.pick := by
    funext acc p
    unfold State.pick State.better
    cases acc with
    | none => rfl
    | some q => simp only [State.refs_clearDisputes]
  unfold State.resyncChoice
  rw [State.best_eq_foldl, State.best_eq_foldl, hbetter]
  congr 2
  funext p
  exact hok p

/-- What an accepted RESYNC makes of the references, by its choice (R41). -/
theorem State.resyncSelect_activeIs {s : State} (hs : s.thirdLaw) : s.resyncSelect.activeIs s.resyncChoice := by
  obtain ⟨o, ho, -⟩ := (s.thirdLaw_iff).1 hs
  have ho' := ho.clearDisputes
  unfold State.resyncSelect
  dsimp only
  rw [State.resyncChoice_clearDisputes]
  cases hc : s.resyncChoice with
  | none =>
    have hnone := (State.best_eq_none_iff _ s).1 hc
    refine State.activeIs.clearDisputes (State.activeIs_none_iff.2 fun q hq => ?_)
    have := hnone q
    rw [hq] at this
    cases this
  | some p =>
    dsimp only
    split
    · next hp =>
      obtain rfl := (ho' p).1 hp
      exact ho'
    · split
      · next old hold =>
        obtain rfl := (ho' old).1 (State.active_of_activePort hold)
        exact (ho'.onRef (f := fun r => { r with state := .ready }) fun h => nomatch h).becomeActive p
      · next hnone => exact (State.activeIs_none_iff.2 ((State.activePort_eq_none_iff _).1 hnone)).becomeActive p

theorem State.resyncTake_refs (s : State) : s.resyncTake.refs = s.resyncSelect.refs := by
  unfold State.resyncTake
  rw [State.changeState_refs]

theorem State.thirdLaw.resyncTake {s : State} (hs : s.thirdLaw) : s.resyncTake.thirdLaw := by
  rw [State.thirdLaw_iff]
  refine ⟨s.resyncChoice, fun q => ?_, ?_⟩
  · rw [State.resyncTake_refs]
    exact State.resyncSelect_activeIs hs q
  · rw [State.resyncTake_ts]
    cases s.resyncChoice <;> rfl

theorem State.thirdLaw_atReset (ret : Retained) (s : State) : (State.blocksAtReset ret s).thirdLaw := by
  rw [State.thirdLaw_iff]
  refine ⟨none, State.activeIs_none_iff.2 fun q => ?_, rfl⟩
  simp [State.blocksAtReset, RefRecord.atReset]

/-- Settles O22. -/
theorem oneActiveReferenceExactlyWhenFollowing : Obligations.OneActiveReferenceExactlyWhenFollowing := by
  intro s t hs h
  refine step_keeps (P := State.thirdLaw) (fun _ _ _ _ _ _ h => h) State.thirdLaw_atReset (fun _ _ h => h)
    (fun c u t hw hu => ?_) hs h
  exact hw.law (P := State.thirdLaw) (fun _ _ _ h => h) (fun _ _ _ h => h) State.thirdLaw_atReset (fun _ _ h => h)
    Follow.thirdLaw Saves.thirdLaw (fun v _ _ hv => hv.resyncTake) (fun _ _ _ h => h) hu

/-! ### Fourth law (R20, R49, R51) -/

theorem State.anyLive_iff (s : State) : s.anyLive = true ↔ ∃ (i : Fin 64) (c : Call), s.slots[i] = some c ∧ c.phase.live = true := by
  simp only [State.anyLive, Vector.any_iff_exists, Option.any_eq_true]
  exact ⟨fun ⟨i, hi, c, h⟩ => ⟨⟨i, hi⟩, c, h⟩, fun ⟨i, c, h⟩ => ⟨i.val, i.isLt, c, h⟩⟩

/-- A slot's record after one slot is written. -/
theorem slot_of_set {v : Vector (Option Call) 64} {i j : Fin 64} {x : Option Call} {c : Call} (h : (v.set i x)[j] = some c) :
    x = some c ∧ j = i ∨ j ≠ i ∧ v[j] = some c := by
  by_cases hij : j = i
  · subst hij
    simp at h
    exact .inl ⟨h, rfl⟩
  · have h' : i.val ≠ j.val := fun e => hij (Fin.ext e.symm)
    refine .inr ⟨hij, ?_⟩
    simpa [h'] using h

theorem Phase.live_of_endPending {p : Phase} (h : p.endPending = true) : p.live = true := by
  cases p <;> simp_all [Phase.endPending, Phase.live]

/-- A stage makes a call live in service alone (R134, R135). -/
theorem Call.Step.live {inService : Bool} {c c' : Call} (h : c.Step inService c') (hl : c'.phase.live = true) :
    c.phase.live = true ∨ inService = true := by
  cases h with
  | opens _ hs => exact .inr hs
  | cancels | uncrosses => cases hl
  | windows _ h | extendsInCall _ h => rw [h]; exact .inl rfl
  | settles _ h | holds h => exact .inl (Phase.live_of_endPending h)
  | retimes => exact .inl hl
  | extendsInWindow _ _ _ h => obtain h | h := h <;> rw [h] <;> exact .inl rfl

/-- The fourth law and what stands with it. -/
def State.outLaw (s : State) : Prop := s.fourthLaw ∧ s.gradeLaw

theorem Call.Note.phase {c c' : Call} (h : c.Note c') : c'.phase = c.phase := by
  cases h with
  | counts t =>
    unfold Call.counted
    (repeat' split) <;> rfl
  | notifies => rfl

theorem Calm.anyLive {s t : State} (h : Calm s t) (ht : t.anyLive = true) : s.anyLive = true ∨ s.inService = true := by
  induction h with
  | refl | lanes | trace | port | retained | draws | maps | unmaps => exact .inl ht
  | trans h _ ih ih' =>
    obtain h' | h' := ih' ht
    · exact ih h'
    · exact .inr (h.inService ▸ h')
  | stage h hc =>
    obtain ⟨j, x, hx, hl⟩ := (State.anyLive_iff _).1 ht
    obtain ⟨hx, -⟩ | ⟨-, hx⟩ := slot_of_set hx
    · cases hx
      exact (hc.live hl).imp (fun hl => (State.anyLive_iff _).2 ⟨_, _, h, hl⟩) id
    · exact .inl ((State.anyLive_iff _).2 ⟨j, x, hx, hl⟩)
  | note h hc =>
    obtain ⟨j, x, hx, hl⟩ := (State.anyLive_iff _).1 ht
    obtain ⟨hx, -⟩ | ⟨-, hx⟩ := slot_of_set hx
    · cases hx
      rw [hc.phase] at hl
      exact .inl ((State.anyLive_iff _).2 ⟨_, _, h, hl⟩)
    · exact .inl ((State.anyLive_iff _).2 ⟨j, x, hx, hl⟩)
  | schedules _ _ hc =>
    obtain ⟨j, x, hx, hl⟩ := (State.anyLive_iff _).1 ht
    obtain ⟨hx, -⟩ | ⟨-, hx⟩ := slot_of_set hx
    · cases hx
      obtain ⟨q, required, rfl⟩ := hc
      cases hl
    · exact .inl ((State.anyLive_iff _).2 ⟨j, x, hx, hl⟩)
  | retires =>
    obtain ⟨j, x, hx, hl⟩ := (State.anyLive_iff _).1 ht
    obtain ⟨hx, -⟩ | ⟨-, hx⟩ := slot_of_set hx
    · cases hx
    · exact .inl ((State.anyLive_iff _).2 ⟨j, x, hx, hl⟩)

theorem Calm.dg {s t : State} (h : Calm s t) (hs : s.inService = false) : t.trace.dg = s.trace.dg ∨ t.trace.dg = .untraced := by
  induction h with
  | refl | lanes | port | retained => exact .inl rfl
  | trans h _ ih ih' =>
    obtain h' | h' := ih' (h.inService.trans hs)
    · rw [h']; exact ih hs
    · exact .inr h'
  | trace tr h => exact h hs
  | draws | maps | unmaps | stage | note | schedules | retires => exact .inl (by simp [State.scheduleCall])

theorem Calm.outLaw {s t : State} (h : Calm s t) (hs : s.outLaw) : t.outLaw := by
  obtain ⟨hlive, hdg, hmark⟩ := hs
  refine ⟨fun ht => ?_, fun ht => ?_, fun ht => ?_⟩
  · rw [h.inService]
    obtain h' | h' := h.anyLive ht
    · exact hlive h'
    · exact h'
  · rw [h.inService] at ht
    obtain h' | h' := h.dg ht
    · rw [h', hdg ht]
    · exact h'
  · rw [h.inService] at ht
    rw [h.ts_refs.1]
    exact hmark ht

/-- A change of the timescale and the references that neither enters nor leaves service keeps the law, where it keeps a last applied
mark. -/
theorem State.outLaw.clock {s : State} (hs : s.outLaw) {ts : Timescale} (rs : Vector RefRecord 4)
    (hst : ts.state.inService = s.inService) (hm : s.ts.lastMark.isSome = true → ts.lastMark.isSome = true) :
    State.outLaw { s with ts := ts, refs := rs } := by
  obtain ⟨hlive, hdg, hmark⟩ := hs
  exact ⟨fun h => hst.trans (hlive h), fun h => hdg (hst.symm.trans h), fun h => hm (hmark (hst.symm.trans h))⟩

/-- A change of the timescale state that neither enters nor leaves service keeps the law. -/
theorem State.outLaw.changeState {s : State} (hs : s.outLaw) {st : TimescaleState} (hst : st.inService = s.inService) :
    (s.changeState st).outLaw :=
  (Calm.evaluate _ _).outLaw (hs.clock (ts := { s.ts with state := st }) s.refs hst id)

theorem State.outLaw.onRef {s : State} (hs : s.outLaw) (p : Fin 4) (f : RefRecord → RefRecord) : (s.onRef p f).outLaw :=
  hs.clock (ts := s.ts) _ rfl id

theorem State.outLaw.becomeActive {s : State} (hs : s.outLaw) (p : Fin 4) : (s.becomeActive p).outLaw :=
  have hcount : ∀ u : State, Calm u u.countSwitch := fun _ => .trace _ fun _ => .inl rfl
  (hcount _).outLaw ((Calm.raise _ _).outLaw (hs.onRef p _))

theorem State.outLaw.loseActive {s : State} (hs : s.outLaw) : s.loseActive.outLaw := by
  have hlost : s.lostAcquiring.outLaw := hs.clock (ts := s.ts.dropAnchor) _ rfl id
  cases hst : s.ts.state with
  | acquiring =>
    cases hb : s.lostAcquiring.best fun q => s.lostAcquiring.eligible q with
    | some p =>
      rw [State.loseActive_of_acquiring_some hst hb]
      exact hlost.becomeActive p
    | none =>
      rw [State.loseActive_of_acquiring_none hst hb]
      refine hlost.changeState ?_
      show _ = s.ts.state.inService
      rw [hst]
      rfl
  | locked =>
    rw [State.loseActive_of_locked hst]
    have hcount : ∀ u : State, Calm u u.countHoldover := fun _ => .trace _ fun _ => .inl rfl
    refine ((hcount _).outLaw ((Calm.raise _ _).outLaw hlost)).changeState ?_
    show _ = s.ts.state.inService
    rw [hst]
    rfl
  | unset => rw [State.loseActive_of_idle (.inl hst)]; exact hs.clock (ts := s.ts) _ rfl id
  | holdover => rw [State.loseActive_of_idle (.inr hst)]; exact hs.clock (ts := s.ts) _ rfl id

theorem Follow.outLaw {s t : State} (h : Follow s t) (hs : s.outLaw) : t.outLaw := by
  induction h with
  | trans _ _ h h' => exact h' (h hs)
  | calm h => exact h.outLaw hs
  | @records s rs => exact hs.clock (ts := s.ts) rs rfl id
  | @steps s => exact hs.clock _ rfl fun _ => rfl
  | @slews s p m θ n =>
    exact hs.clock _ (congrArg TimescaleState.inService (Timescale.slewTo_state θ p m s.ts)) fun _ => rfl
  | @starts s p _ h =>
    refine (hs.becomeActive p).changeState ?_
    show _ = s.ts.state.inService
    rw [h]
    rfl
  | loses p f => exact (hs.onRef p f).loseActive
  | fails p c => exact ((Calm.raise _ _).outLaw (hs.onRef p (RefRecord.fail c))).loseActive
  | @configures s => exact hs.clock _ rfl id

/-- A state in service with a last applied mark keeps the law. -/
theorem State.outLaw_of_service {s : State} (hs : s.inService = true) (hm : s.ts.lastMark.isSome = true) : s.outLaw :=
  ⟨fun _ => hs, fun h => Bool.noConfusion (hs.symm.trans h), fun _ => hm⟩

theorem Saves.outLaw {s t : State} (h : Saves s t) : t.outLaw := by
  obtain ⟨-, hst, -, -, hm⟩ := h.locked
  exact State.outLaw_of_service (by rw [State.inService, hst]; rfl) hm

theorem State.resyncTake_outLaw {s : State} (hl : s.anyLive = false) : s.resyncTake.outLaw := by
  have hslots : s.resyncTake.slots = s.slots := by
    have hsel : s.resyncSelect.slots = s.slots := by
      unfold State.resyncSelect
      dsimp only
      (repeat' split) <;> rfl
    unfold State.resyncTake
    rw [State.changeState_slots]
    exact hsel
  have hout : s.resyncTake.inService = false := by
    rw [State.inService, State.resyncTake_ts]
    cases s.resyncChoice <;> rfl
  refine ⟨fun h => ?_, fun _ => ?_, fun h => Bool.noConfusion (hout.symm.trans h)⟩
  · rw [State.anyLive, hslots] at h
    exact Bool.noConfusion (hl.symm.trans h)
  · have hst : (if s.resyncChoice.isSome then TimescaleState.acquiring else .unset).inService = false := by
      cases s.resyncChoice <;> rfl
    unfold State.resyncTake State.changeState
    rw [State.evaluate_dg]
    show evalGrade _ (TimescaleState.inService (if s.resyncChoice.isSome then _ else _)) _ _ = _
    rw [hst, evalGrade_out_of_service]

theorem State.outLaw_atReset (ret : Retained) (s : State) : (State.blocksAtReset ret s).outLaw := by
  refine ⟨fun h => ?_, fun _ => rfl, fun h => nomatch h⟩
  obtain ⟨i, c, hc, -⟩ := (State.anyLive_iff _).1 h
  simp [State.blocksAtReset] at hc

/-- Settles O29. -/
theorem outOfServiceNothingIsLiveOrTraced : Obligations.OutOfServiceNothingIsLiveOrTraced := by
  intro s t hf hg h
  refine step_keeps (P := State.outLaw) (fun _ _ _ _ _ _ h => h) State.outLaw_atReset (fun _ _ h => h)
    (fun c u t hw hu => ?_) ⟨hf, hg⟩ h
  exact hw.law (P := State.outLaw) (fun _ _ _ h => h) (fun _ _ _ h => h) State.outLaw_atReset (fun _ _ h => h)
    Follow.outLaw (fun h _ => h.outLaw) (fun v _ hl _ => State.resyncTake_outLaw hl) (fun _ _ _ h => h) hu

/-! ### The alert set and the saved rate (R18, R158, R163, R165) -/

theorem Works.alerts {c : Instr} {u t : State} (h : Works c u t) {a : Alert} (ha : hasAlert a u.ops.alerts = true) :
    hasAlert a t.ops.alerts = true ∨ c.restarts = true ∨ ∃ dt tag payload, c = .readAlerts dt (.ops tag payload) := by
  cases h with
  | follows h => exact .inl (h.drift.undisturbed.alerts a ha)
  | saves _ h h' => exact .inl (h'.drift.undisturbed.alerts a (h.drift.undisturbed.alerts a ha))
  | settles => exact .inl ha
  | receives _ h => exact .inl (h.undisturbed.alerts a ha)
  | takes hready hr =>
    obtain h | ⟨k, latch, -, -, h⟩ := LaneServed.works (by rw [State.onLane_same]; exact hready.up) hr
    · exact .inl (h.undisturbed.alerts a ha)
    · exact .inl (h.undisturbed.alerts a ha)
  | @takesWrite r kind tag hr =>
    have hport : ∀ {w}, PortWorks c u.written w →
        hasAlert a w.ops.alerts = true ∨ ∃ dt tag payload, c = .readAlerts dt (.ops tag payload) := by
      intro w hw
      cases hw with
      | follows h => exact .inl (h.drift.undisturbed.alerts a ha)
      | resyncs => exact .inl ((Drift.resyncTake _).undisturbed.alerts a ha)
      | limits | retained => exact .inl ha
      | alerts hc => exact .inr ⟨_, _, _, hc⟩
    exact (hport hr.works).imp id .inr
  | @transfers _ part =>
    obtain ⟨o, ho, -, halerts⟩ := opsTransfer_port part u
    rw [ho]
    exact .inl (by rw [halerts]; exact ha)
  | restarts hc => exact .inr (.inl hc)

/-- The saved rate and its flag are as they were. -/
def State.SavedAs (s t : State) : Prop := t.retained.savedRate = s.retained.savedRate ∧ t.retained.valid = s.retained.valid

theorem State.SavedAs.trans {s t u : State} (h : s.SavedAs t) (h' : t.SavedAs u) : s.SavedAs u :=
  ⟨h'.1.trans h.1, h'.2.trans h.2⟩

theorem State.SavedAs.loseActive (s : State) : s.SavedAs s.loseActive := by
  unfold State.loseActive
  dsimp only
  (repeat' split) <;> simp [State.SavedAs]

theorem Follow.saved {s t : State} (h : Follow s t) : s.SavedAs t := by
  induction h with
  | trans _ _ h h' => exact h.trans h'
  | calm h => exact h.saved
  | records | steps | slews | configures => exact ⟨rfl, rfl⟩
  | starts => rw [State.SavedAs, State.changeState_retained]; exact ⟨rfl, rfl⟩
  | @loses s p f => exact State.SavedAs.loseActive (s.onRef p f)
  | @fails s p c => exact State.SavedAs.loseActive ((s.onRef p (RefRecord.fail c)).raise .referenceFailed)

theorem Stamped.saved {l : Fin 16} {tArr : Nat} {s t : State} (h : Stamped l tArr s t) : s.SavedAs t :=
  State.SavedAs.trans (Calm.ageLane s l).saved h.calm.saved

theorem State.SavedAs.resyncTake (s : State) : s.SavedAs s.resyncTake := by
  have hsel : s.resyncSelect.retained = s.retained := by
    unfold State.resyncSelect
    dsimp only
    (repeat' split) <;> rfl
  unfold State.resyncTake
  rw [State.SavedAs, State.changeState_retained]
  show s.resyncSelect.retained.savedRate = _ ∧ s.resyncSelect.retained.valid = _
  rw [hsel]
  exact ⟨rfl, rfl⟩

theorem Works.saved {c : Instr} {u t : State} (h : Works c u t) : u.SavedAs t ∨
    ((∃ dt p, (∃ edge lines error, c = .pulseEdge dt p edge lines error) ∨ ∃ chars framing, c = .announcement dt p chars framing) ∧
      t.ts.state = .locked ∧ t.retained.savedRate = t.ts.rate ∧ t.retained.valid = true) ∨
    ∃ dt tag payload, c = .retainedWrite dt (.ops tag payload) := by
  cases h with
  | follows h => exact .inl h.saved
  | saves hc _ h' =>
    obtain ⟨-, hst, hrate, hvalid, -⟩ := h'.locked
    exact .inr (.inl ⟨hc, hst, hrate, hvalid⟩)
  | settles | restarts => exact .inl ⟨rfl, rfl⟩
  | receives _ h => exact .inl h.saved
  | takes hready hr =>
    obtain h | ⟨k, latch, -, -, h⟩ := LaneServed.works (by rw [State.onLane_same]; exact hready.up) hr
    · exact .inl h.saved
    · exact .inl h.saved
  | @takesWrite r kind tag hr =>
    have hport : ∀ {w}, PortWorks c u.written w → u.SavedAs w ∨ ∃ dt tag payload, c = .retainedWrite dt (.ops tag payload) := by
      intro w hw
      cases hw with
      | follows h => exact .inl h.saved
      | resyncs => exact .inl (State.SavedAs.resyncTake u.written)
      | limits | alerts => exact .inl ⟨rfl, rfl⟩
      | retained hc => exact .inr ⟨_, _, _, hc⟩
    exact (hport hr.works).imp id .inr
  | @transfers _ part =>
    obtain ⟨o, ho, -⟩ := opsTransfer_port part u
    rw [ho]
    exact .inl ⟨rfl, rfl⟩

/-- The saved rate over a command of power or reset: it is lost with the second of the two supplies (R163). -/
theorem exec_power_saved {c : Instr} (hc : c.isPower = true) {s t : State} (h : exec c s = .next t) : s.SavedAs t ∨
    c = .backupSupplyLoss ∧ s.power = .off ∨ c = .powerLoss ∧ s.power ≠ .off ∧ s.backup = false := by
  have hfalls : s.SavedAs s.powerFalls ∨ s.backup = false := by
    cases hb : s.backup with
    | true =>
      refine .inl ?_
      rw [State.SavedAs]
      simp [State.powerFalls, State.blocksAtReset, State.onBackup, hb]
    | false => exact .inr rfl
  cases c with
  | powerOn =>
    simp only [exec, execPowerOn] at h
    split at h <;> cases h <;> exact .inl ⟨rfl, rfl⟩
  | resetPinAsserted =>
    simp only [exec, execResetPinAsserted] at h
    split at h <;> cases h <;> exact .inl ⟨rfl, rfl⟩
  | runStart =>
    simp only [exec, execRunStart] at h
    split at h <;> cases h <;> exact .inl ⟨rfl, rfl⟩
  | powerLoss =>
    simp only [exec, execPowerLoss] at h
    split at h
    · cases h; exact .inl ⟨rfl, rfl⟩
    · next cause hp =>
      cases h
      exact hfalls.imp id fun hb => .inr ⟨rfl, by simp [hp], hb⟩
    · next hp =>
      cases h
      exact hfalls.imp id fun hb => .inr ⟨rfl, by simp [hp], hb⟩
  | backupSupplyLoss =>
    simp only [exec, execBackupSupplyLoss] at h
    split at h
    · next hp => exact .inr (.inl ⟨rfl, hp⟩)
    · cases h; exact .inl ⟨rfl, rfl⟩
    · cases h; exact .inl ⟨rfl, rfl⟩
  | _ => cases hc

theorem Instr.restarts_of_isPower {c : Instr} (h : c.isPower = true) : c.restarts = true := by
  simp only [Instr.restarts, h, Bool.true_or]

/-- Settles O59. -/
theorem alertsAndSavedRateChangeOnlyByTheirRules : Obligations.AlertsAndSavedRateChangeOnlyByTheirRules := by
  refine ⟨fun c s t a h ha hna => ?alerts, fun c s t h hne => ?rate⟩
  case alerts =>
    cases hc : c.isPower with
    | true => exact .inl (Instr.restarts_of_isPower hc)
    | false =>
      by_cases hp : s.power = .running
      · exact ((exec_works hp hc h).alerts (a := a) ha).resolve_left fun ht => Bool.noConfusion (hna.symm.trans ht)
      · cases (exec_still hc hp).symm.trans h
        exact Bool.noConfusion (hna.symm.trans ha)
  case rate =>
    have hchanged : ¬ s.SavedAs t := fun ⟨h1, h2⟩ => hne.elim (absurd h1) (absurd h2)
    cases hc : c.isPower with
    | true => exact .inr (.inr ((exec_power_saved hc h).resolve_left hchanged))
    | false =>
      by_cases hp : s.power = .running
      · exact ((exec_works hp hc h).saved.resolve_left hchanged).imp id .inl
      · cases (exec_still hc hp).symm.trans h
        exact absurd ⟨rfl, rfl⟩ hchanged

/-! ### The state at reset (O58) -/

theorem hasAlert_atReset (a : Alert) : hasAlert a Alert.resetDone.flag = decide (a = .resetDone) := by
  cases a <;> decide

/-- Settles O58. -/
theorem resetMeetsEveryLaw : Obligations.ResetMeetsEveryLaw := by
  have hlane : ∀ l : Fin 16, State.reset.lanes[l] = Lane.atReset := fun l => by simp [State.reset]
  have hslot : ∀ i : Fin 64, State.reset.slots[i] = none := fun i => by simp [State.reset]
  have href : ∀ p : Fin 4, State.reset.refs[p] = RefRecord.atReset := fun p => by simp [State.reset]
  obtain ⟨hmap, hexpiry⟩ := reset_lists_wf
  obtain ⟨hfourth, hgrade⟩ := State.outLaw_atReset (Retained.lost.record .powerOn) State.reset
  refine ⟨Timescale.inRange_atReset _, State.thirdLaw_atReset (Retained.lost.record .powerOn) State.reset, hfourth, hgrade,
    fun l => ?wf, fun i c hc => ?calls, ⟨hmap, hexpiry, fun e he => (nomatch he), fun i => ?due⟩,
    ⟨fun r hr => (nomatch hr), fun l f hf => ?secret, fun i c hc => ?cancelled⟩, rfl, rfl, rfl, rfl, rfl, rfl, rfl, rfl, rfl, rfl,
    fun p => by rw [href]; rfl, hslot, fun l => ?fresh, hasAlert_atReset⟩
  case wf =>
    rw [hlane]
    exact ⟨Nat.zero_le _, Nat.zero_le _, Nat.zero_le _, Nat.zero_le _, fun h => absurd rfl h, fun _ => ⟨rfl, rfl, rfl, rfl, rfl, rfl, rfl⟩⟩
  case calls | cancelled =>
    rw [hslot] at hc
    cases hc
  case due =>
    rw [hslot]
    rfl
  case secret =>
    rw [hlane] at hf
    cases hf
  case fresh =>
    rw [hlane]
    exact ⟨rfl, rfl, rfl, rfl, rfl⟩

end Sys2Proof.Machine
end

section
/-! PROOFS. The laws of the lanes: shares and windows, the stamps of a lane, and the compensation of a stamp. -/

namespace Sys2Proof.Machine

/-! ### What keeps a lane within its shares (R66, R70, R77, R108) -/

theorem Lane.Holds.refl (n : Lane) : n.Holds n := (Lane.Keeps.refl n).toHolds

theorem Lane.Holds.trans {n n' n'' : Lane} (h : n.Holds n') (h' : n'.Holds n'') : n.Holds n'' where
  up := h'.up.trans h.up
  queue := h'.queue.trans h.queue
  replies := h'.replies.trans h.replies
  notices := fun hn => h'.notices (h.notices hn)
  window := fun hw => h'.window (h.window hw)
  idle := fun hup hi => h'.idle (h.up.trans hup) (h.idle hup hi)
  tx := fun f hf => (h'.tx f hf).elim (h.tx f) .inr

theorem Lane.Keeps.trans {n n' n'' : Lane} (h : n.Keeps n') (h' : n'.Keeps n'') : n.Keeps n'' :=
  ⟨h.toHolds.trans h'.toHolds, h'.sequence.trans h.sequence, h'.lastStamp.trans h.lastStamp⟩

theorem Lane.Holds.wf {n n' : Lane} (h : n.Holds n') (hn : n.wf) : n'.wf := by
  obtain ⟨hq, hr, hs, hw, hwait, hdown⟩ := hn
  refine ⟨h.queue ▸ hq, h.replies ▸ hr, h.notices hs, h.window hw, fun hne => ?_, fun hup => ?_⟩
  · rw [h.replies]
    exact hwait (h.queue ▸ hne)
  · rw [h.up] at hup
    obtain ⟨hq, hidle⟩ := hdown hup
    exact ⟨h.queue.trans hq, h.idle hup hidle⟩

theorem Lane.Holds.due {n n' : Lane} (h : n.Holds n') (hn : n.due) : n'.due := by
  obtain ⟨hq, hr, hs, hw, hwait, hup⟩ := hn
  refine ⟨h.queue ▸ hq, h.replies ▸ hr, h.notices hs, h.window hw, fun hne => ?_, h.up.trans hup⟩
  rw [h.replies]
  exact hwait (h.queue ▸ hne)

/-- The reply of a request just answered takes the free entry (R75, R76). -/
theorem Lane.due.join {n : Lane} (h : n.due) (r : Reply) : (n.join (.reply r)).wf := by
  obtain ⟨hq, hr, hs, hw, hwait, hup⟩ := h
  refine ⟨hq, ?_, ?_, hw, fun hne => ?_, fun h => Bool.noConfusion (hup.symm.trans h)⟩
  · rw [Lane.join_replies]
    exact Nat.succ_le_succ hr
  · rw [Lane.join_notices]
    exact hs
  · rw [Lane.join_replies, hwait hne]
    rfl

theorem Lane.placeNotice_wf {f : TxFrame} (hf : f.isReply = false) {n : Lane} (hn : n.wf) : (n.placeNotice f).wf := by
  obtain ⟨hq, hr, hs, hw, hwait, hdown⟩ := hn
  obtain ⟨hup, hfree, h⟩ | ⟨-, -, h⟩ | ⟨-, h⟩ := placeNotice_cases f n <;> rw [h]
  · refine ⟨hq, ?_, ?_, hw, fun hne => ?_, fun h => Bool.noConfusion (hup.symm.trans h)⟩
    · rw [Lane.join_replies, hf]
      exact hr
    · rw [Lane.join_notices, hf]
      exact hfree
    · rw [Lane.join_replies, hf]
      exact hwait hne
  · exact ⟨hq, hr, hs, hw, hwait, hdown⟩
  · exact ⟨hq, hr, hs, hw, hwait, hdown⟩

/-- The issue of a stamp changes the sequence and the last stamp alone (R86). -/
theorem Lane.Holds.issue (d : Dated) (n : Lane) : n.Holds (n.issue d) :=
  ⟨rfl, rfl, rfl, id, id, fun _ h => h, fun _ h => .inl h⟩

/-! ### What calm stretches and references leave of a lane -/

theorem Lane.Keeps.handNotice (set : LaneSet) {f : TxFrame} (hf : f.plain = true) (s : State) (l : Fin 16) :
    s.lanes[l].Keeps (s.handNotice set f).lanes[l] := by
  rw [handNotice_lane]
  split
  · exact .placeNotice hf _
  · exact .refl _

theorem Calm.keeps {s t : State} (h : Calm s t) (l : Fin 16) : s.lanes[l].Keeps t.lanes[l] := by
  induction h with
  | trans _ _ h h' => exact h.trans h'
  | lanes ls h => exact h l
  | @stage s i c c' => exact .handNotice c'.notices rfl _ l
  | @schedules s i keys c => exact .handNotice c.notices rfl _ l
  | refl | trace | port | retained | draws | note | retires | maps | unmaps => exact .refl _

theorem Drift.keeps {s t : State} (h : Drift s t) (l : Fin 16) : s.lanes[l].Keeps t.lanes[l] := by
  induction h with
  | trans _ _ h h' => exact h.trans h'
  | calm h => exact h.keeps l
  | clock | save => exact .refl _

theorem PortWorks.keeps {c : Instr} {v t : State} (h : PortWorks c v t) (l : Fin 16) : v.lanes[l].Keeps t.lanes[l] := by
  cases h with
  | follows h => exact h.drift.keeps l
  | resyncs => exact (Drift.resyncTake v).keeps l
  | limits | alerts | retained => exact .refl _

/-- A stamp issues on its own lane, over an aged window, and leaves the other lanes as a calm stretch does (R83 to R86). -/
theorem Stamped.holds {l : Fin 16} {tArr : Nat} {s t : State} (h : Stamped l tArr s t) (m : Fin 16) :
    s.lanes[m].Holds t.lanes[m] := by
  have hage := ((Calm.ageLane s l).keeps m).toHolds
  refine hage.trans (.trans ?_ (h.calm.keeps m).toHolds)
  by_cases hm : m = l
  · subst hm
    rw [State.onLane_same]
    exact .issue _ _
  · rw [State.onLane_other _ l m hm]
    exact .refl _

theorem Stamped.keeps_other {l m : Fin 16} {tArr : Nat} {s t : State} (h : Stamped l tArr s t) (hm : m ≠ l) :
    s.lanes[m].Keeps t.lanes[m] := by
  have hcore := h.calm.keeps m
  rw [State.onLane_other _ l m hm] at hcore
  exact ((Calm.ageLane s l).keeps m).trans hcore

/-- A lane at a settle expiry: after the stage, the CLOSE_NOTICE is placed at each lane of the notice set (R146). -/
theorem State.settleCall_lane (s : State) (i : Fin 64) (c : Call) (l : Fin 16) :
    (s.settleCall i c).lanes[l] = if c.notices.getLsbD l
      then (s.commit i { c with phase := .uncrossDue }).lanes[l].placeNotice
        (Call.closeNotice i (Call.revised { c with phase := .uncrossDue }))
      else (s.commit i { c with phase := .uncrossDue }).lanes[l] := handNotice_lane _ _ _ _

/-! ### Lanes over every command (O35) -/

theorem Works.lanesWf {c : Instr} {u t : State} (h : Works c u t) (hu : u.lanesWf) : t.lanesWf := by
  have hon : ∀ {s : State} {l : Fin 16} {f : Lane → Lane}, (∀ m, m ≠ l → s.lanes[m].wf) → (f s.lanes[l]).wf →
      (s.onLane l f).lanesWf := by
    intro s l f hs hf m
    by_cases hm : m = l
    · subst hm
      rw [State.onLane_same]
      exact hf
    · rw [State.onLane_other s l m hm]
      exact hs m hm
  cases h with
  | follows h => exact fun l => (h.drift.keeps l).wf (hu l)
  | saves _ h h' => exact fun l => (h'.drift.keeps l).wf ((h.drift.keeps l).wf (hu l))
  | @settles _ i x _ hx hp =>
    intro l
    have hcommit : (u.commit i { x with phase := .uncrossDue }).lanes[l].wf :=
      ((Calm.stage hx (.uncrosses hp)).keeps l).wf (hu l)
    rw [State.settleCall_lane]
    split
    · exact Lane.placeNotice_wf rfl hcommit
    · exact hcommit
  | receives hmoves h =>
    exact fun l => (h.keeps l).wf (hon (fun m _ => hu m) (hmoves.wf (hu _)) l)
  | @takes l f r kind tag hready hr =>
    have hdue : ((u.onLane l f).lanes[l]).due := by
      rw [State.onLane_same]
      exact hready.due (hu l)
    have hother : ∀ m, m ≠ l → ((u.onLane l f).lanes[m]).wf := fun m hm => by
      rw [State.onLane_other u l m hm]
      exact hu m
    have hholds : ∀ m : Fin 16, (u.onLane l f).lanes[m].Holds r.1.lanes[m] := by
      obtain h | ⟨k, latch, -, -, h⟩ := LaneServed.works (by rw [State.onLane_same]; exact hready.up) hr
      · exact fun m => (h.keeps m).toHolds
      · exact h.holds
    exact hon (fun m hm => (hholds m).wf (hother m hm)) (((hholds l).due hdue).join _)
  | @takesWrite r kind tag hr => exact fun l => (hr.works.keeps l).wf (hu l)
  | @transfers _ part =>
    obtain ⟨o, ho, -⟩ := opsTransfer_port part u
    rw [ho]
    exact hu
  | restarts =>
    intro l
    have hlane : (u.written.beginRun .resetRequest).lanes[l] = Lane.atReset := by simp [State.beginRun, State.blocksAtReset]
    rw [hlane]
    exact ⟨Nat.zero_le _, Nat.zero_le _, Nat.zero_le _, Nat.zero_le _, fun h => absurd rfl h,
      fun _ => ⟨rfl, rfl, rfl, rfl, rfl, rfl, rfl⟩⟩

theorem Lane.wf_atReset : Lane.atReset.wf :=
  ⟨Nat.zero_le _, Nat.zero_le _, Nat.zero_le _, Nat.zero_le _, fun h => absurd rfl h, fun _ => ⟨rfl, rfl, rfl, rfl, rfl, rfl, rfl⟩⟩

/-- Settles O35. -/
theorem laneQueuesStayWithinTheirShares : Obligations.LaneQueuesStayWithinTheirShares := by
  intro s t hs h
  refine step_keeps (P := State.lanesWf) (fun _ _ _ _ _ _ h => h) (fun ret s l => ?_) (fun _ _ h => h)
    (fun c u t hw hu => hw.lanesWf hu) hs h
  have hlane : (State.blocksAtReset ret s).lanes[l] = Lane.atReset := by simp [State.blocksAtReset]
  rw [hlane]
  exact Lane.wf_atReset

/-! ### Fifth law (R85, R86) -/

/-- The stamps of a lane are as they were. -/
def Lane.SameStamps (n n' : Lane) : Prop := n'.sequence = n.sequence ∧ n'.lastStamp = n.lastStamp

theorem Lane.SameStamps.trans {n n' n'' : Lane} (h : n.SameStamps n') (h' : n'.SameStamps n'') : n.SameStamps n'' :=
  ⟨h'.1.trans h.1, h'.2.trans h.2⟩

theorem Lane.Keeps.sameStamps {n n' : Lane} (h : n.Keeps n') : n.SameStamps n' := ⟨h.sequence, h.lastStamp⟩

theorem Lane.SameStamps.placeNotice (f : TxFrame) (n : Lane) : n.SameStamps (n.placeNotice f) := by
  obtain ⟨-, -, h⟩ | ⟨-, -, h⟩ | ⟨-, h⟩ := placeNotice_cases f n <;> rw [h] <;> exact ⟨rfl, rfl⟩

/-- A lane issues the stamp of a request that it takes (R85, R86). -/
structure Issues (c : Instr) (u t : State) (l : Fin 16) (latch : Nat) : Prop where
  taken : ∃ k, (k = Kind.stamp ∨ k = .stampKeyed) ∧ TakesFrom c u l k latch
  sequence : t.lanes[l].sequence = u.lanes[l].sequence + 1
  lastStamp : ∃ comp, comp ≤ u.ops.limits.cmax ∧ t.lanes[l].lastStamp = some (clampStamp u.lanes[l].lastStamp (latch - comp))

/-- The compensation that any window gives is at most Cmax (R110, R111). -/
theorem derive_c_le (cmax c0 asymmetry : Nat) (w : List Sample) : (derive cmax c0 asymmetry w).c ≤ cmax := by
  unfold derive
  split
  · exact min_le_right _ _
  · split
    · assumption
    · exact le_refl _

theorem State.ageLane_same (s : State) (l : Fin 16) :
    (s.ageLane l).lanes[l] = s.lanes[l].age s.now s.ops.limits.cmax := by
  unfold State.ageLane State.useWindow
  dsimp only
  split
  · exact State.onLane_same s l _
  · exact State.onLane_same s l _

/-- The stamp that a request issues: the sequence rises by one, and the time is the arrival's less the compensation of the aged window,
raised by the monotone clamp (R84 to R86). -/
theorem Stamped.issued {l : Fin 16} {tArr : Nat} {s t : State} (h : Stamped l tArr s t) :
    t.lanes[l].sequence = s.lanes[l].sequence + 1 ∧
    ∃ comp, comp ≤ s.ops.limits.cmax ∧ t.lanes[l].lastStamp = some (clampStamp s.lanes[l].lastStamp (tArr - comp)) := by
  have hcore := h.calm.keeps l
  rw [State.onLane_same] at hcore
  refine ⟨hcore.sequence.trans ?_, (s.ageLane l).lanes[l].derived.c, ?_, hcore.lastStamp.trans ?_⟩
  · show (s.ageLane l).lanes[l].sequence + 1 = _
    rw [State.ageLane_same]
    rfl
  · rw [State.ageLane_same]
    exact derive_c_le _ _ _ _
  · show some (clampStamp (s.ageLane l).lanes[l].lastStamp (tArr - (s.ageLane l).lanes[l].derived.c)) = _
    rw [State.ageLane_same]
    rfl

theorem Works.stamps {c : Instr} {u t : State} (h : Works c u t) (hc : c.restarts = false) (l : Fin 16) :
    u.lanes[l].SameStamps t.lanes[l] ∨ ∃ latch, Issues c u t l latch := by
  have hon : ∀ {s : State} {m : Fin 16} {f : Lane → Lane}, s.lanes[m].SameStamps (f s.lanes[m]) →
      s.lanes[l].SameStamps (s.onLane m f).lanes[l] := by
    intro s m f hf
    by_cases hm : l = m
    · subst hm
      rw [State.onLane_same]
      exact hf
    · rw [State.onLane_other s m l hm]
      exact ⟨rfl, rfl⟩
  cases h with
  | follows h => exact .inl (h.drift.keeps l).sameStamps
  | saves _ h h' => exact .inl ((h.drift.keeps l).sameStamps.trans (h'.drift.keeps l).sameStamps)
  | @settles _ i x _ hx hp =>
    refine .inl (((Calm.stage hx (.uncrosses hp)).keeps l).sameStamps.trans ?_)
    rw [State.settleCall_lane]
    split
    · exact .placeNotice _ _
    · exact ⟨rfl, rfl⟩
  | receives hmoves h => exact .inl ((hon ⟨hmoves.sequence, hmoves.lastStamp⟩).trans (h.keeps l).sameStamps)
  | @takes m f r kind tag hready hr =>
    have hjoin : r.1.lanes[l].SameStamps
        (r.1.onLane m (Lane.join (.reply { kind, tag, code := r.2.code, ind := r.2.ind, body := r.2.body }))).lanes[l] := hon ⟨rfl, rfl⟩
    have hready' : u.lanes[l].SameStamps (u.onLane m f).lanes[l] := hon ⟨hready.sequence, hready.lastStamp⟩
    obtain h | ⟨k, latch, hk, htakes, h⟩ := LaneServed.works (by rw [State.onLane_same]; exact hready.up) hr
    · exact .inl ((hready'.trans (h.keeps l).sameStamps).trans hjoin)
    · by_cases hm : l = m
      · subst hm
        obtain ⟨hseq, comp, hcomp, hlast⟩ := h.issued
        refine .inr ⟨latch, ⟨k, hk, htakes⟩, ?_, comp, hcomp, ?_⟩
        · rw [hjoin.1, hseq, hready'.1]
        · rw [hjoin.2, hlast, hready'.2]
      · exact .inl ((hready'.trans (h.keeps_other hm).sameStamps).trans hjoin)
  | takesWrite hr => exact .inl (hr.works.keeps l).sameStamps
  | @transfers _ part =>
    obtain ⟨o, ho, -⟩ := opsTransfer_port part u
    rw [ho]
    exact .inl ⟨rfl, rfl⟩
  | restarts hr => rw [hc] at hr; cases hr

/-- The stamps of a lane over any command that does not restart the part. -/
theorem exec_stamps {c : Instr} {s t : State} (hc : c.restarts = false) (h : exec c s = .next t) (l : Fin 16) :
    s.lanes[l].SameStamps t.lanes[l] ∨ ∃ latch, Issues c (s.elapse c.dt) t l latch := by
  by_cases hp : s.power = .running
  · exact (exec_works hp (Instr.isPower_of_restarts hc) h).stamps hc l
  · cases (exec_still (Instr.isPower_of_restarts hc) hp).symm.trans h
    exact .inl ⟨rfl, rfl⟩

theorem lt_clampStamp {last : Option Nat} {x : Nat} (h : last = some x) (t0 : Nat) : x < clampStamp last t0 := by
  subst h
  simp only [clampStamp]
  split <;> omega

theorem le_clampStamp (last : Option Nat) (t0 : Nat) : t0 ≤ clampStamp last t0 := by
  unfold clampStamp
  split
  · split <;> omega
  · exact le_refl _

theorem Instr.eq_of_request_stamp {c : Instr} {src : Source} (h : c.request = some (src, .stamp)) : c = .stamp c.dt src := by
  cases c with
  | stamp => cases h; rfl
  | echo _ port => cases port <;> cases h
  | _ => cases h

theorem Instr.eq_of_request_stampKeyed {c : Instr} {src : Source} (h : c.request = some (src, .stampKeyed)) :
    c = .stampKeyed c.dt src := by
  cases c with
  | stampKeyed => cases h; rfl
  | echo _ port => cases port <;> cases h
  | _ => cases h

/-- Settles O39. -/
theorem stampsOfALaneStrictlyIncrease : Obligations.StampsOfALaneStrictlyIncrease := by
  intro c s t l hc h
  obtain hsame | ⟨latch, ⟨k, hk, htakes⟩, hseq, comp, -, hlast⟩ := exec_stamps hc h l
  · exact .inl hsame
  · refine .inr ?_
    have hstamp : ∃ y, t.lanes[l].lastStamp = some y ∧ ∀ x, s.lanes[l].lastStamp = some x → x < y :=
      ⟨_, hlast, fun x hx => lt_clampStamp hx _⟩
    obtain ⟨⟨tag, payload, hq⟩ | ⟨dt, bytes, err, hf⟩, -⟩ | ⟨⟨dt, hf⟩, -⟩ := htakes
    · obtain rfl | rfl := hk
      · exact ⟨⟨c.dt, .inl ⟨tag, payload, .inl (Instr.eq_of_request_stamp hq)⟩⟩, hseq, hstamp⟩
      · exact ⟨⟨c.dt, .inl ⟨tag, payload, .inr (Instr.eq_of_request_stampKeyed hq)⟩⟩, hseq, hstamp⟩
    · exact ⟨⟨dt, .inr (.inl ⟨bytes, err, hf⟩)⟩, hseq, hstamp⟩
    · exact ⟨⟨dt, .inr (.inr hf)⟩, hseq, hstamp⟩

/-! ### Sixth law (R84, R110, R111) -/

theorem standingOf_le_three {w : List Sample} (h : w.length ≤ 3) : standingOf w.length = if w = [] then .none else .partly := by
  unfold standingOf
  simp only [List.length_eq_zero_iff, if_pos h]

theorem minSample_eq {w : List Sample} {lo : Nat} (hmem : ∃ x ∈ w, x.d = lo) (hle : ∀ x ∈ w, lo ≤ x.d) : minSample w = lo := by
  have hmin : (w.map Sample.d).min? = some lo :=
    List.min?_eq_some_iff.2 ⟨List.mem_map.2 hmem, fun b hb => by
      obtain ⟨x, hx, rfl⟩ := List.mem_map.1 hb
      exact hle x hx⟩
  rw [minSample, hmin]
  rfl

theorem maxSample_eq {w : List Sample} {hi : Nat} (hmem : ∃ x ∈ w, x.d = hi) (hle : ∀ x ∈ w, x.d ≤ hi) : maxSample w = hi := by
  have hmax : (w.map Sample.d).max? = some hi :=
    List.max?_eq_some_iff.2 ⟨List.mem_map.2 hmem, fun b hb => by
      obtain ⟨x, hx, rfl⟩ := List.mem_map.1 hb
      exact hle x hx⟩
  rw [maxSample, hmax]
  rfl

/-- Settles O42: what a window gives, and the sixth law over every command. -/
theorem compensationStaysWithinCmax : Obligations.CompensationStaysWithinCmax := by
  refine ⟨fun cmax c0 asymmetry w => ⟨fun hw => ?few, fun lo hi hw hlo hhi hall => ?many⟩, derive_c_le,
    fun c l latch s t hc hlatch h hne => ?law⟩
  case few => rw [derive, if_pos hw, standingOf_le_three hw]
  case many =>
    rw [derive, if_neg (by omega), minSample_eq hlo fun x hx => (hall x hx).1, maxSample_eq hhi fun x hx => (hall x hx).2]
    split
    · next h => simp [h]
    · next h => simp [le_of_not_ge h, Nat.not_le.1 h]
  case law =>
    obtain hsame | ⟨latch', ⟨k, -, htakes⟩, -, comp, hcomp, hlast⟩ := exec_stamps hc h l
    · exact absurd hsame.1 hne
    · refine ⟨_, hlast, ?_⟩
      have hclamp := le_clampStamp (s.elapse c.dt).lanes[l].lastStamp (latch' - comp)
      have hcomp' : comp ≤ s.ops.limits.cmax := hcomp
      have heq : latch' = latch := by
        obtain ⟨hcmd, hl⟩ | ⟨⟨dt, hf⟩, q, rest, hq, hlq⟩ := htakes
        · obtain ⟨-, hl'⟩ | ⟨⟨dt, rfl⟩, -⟩ := hlatch
          · exact Option.some.inj (hl.symm.trans hl')
          · obtain ⟨tag, payload, hq⟩ | ⟨dt', bytes, err, hf⟩ := hcmd
            · cases hq
            · cases hf
        · obtain ⟨hnot, -⟩ | ⟨-, q', rest', hq', hlq'⟩ := hlatch
          · exact absurd hf (hnot dt)
          · cases hq.symm.trans hq'
            exact hlq.symm.trans hlq'
      omega

end Sys2Proof.Machine
end

section
/-! PROOFS. The laws of the auction records: ends and holds (eighth to tenth), keys and expiries (eleventh), and the secrecy of the end
(seventh). -/

namespace Sys2Proof.Machine

/-! ### A law of every record -/

/-- A law of a record that no stage, no count and no new call breaks. -/
structure Call.Kept (L : Call → Prop) : Prop where
  step : ∀ {b : Bool} {c c' : Call}, L c → c.Step b c' → L c'.revised
  note : ∀ {c c' : Call}, L c → c.Note c' → L c'
  fresh : ∀ {c : Call}, c.fresh → L c.revised

theorem State.everyCall.set {L : Call → Prop} {s t : State} {i : Fin 64} {x : Option Call} (hs : s.everyCall L)
    (ht : t.slots = s.slots.set i x) (hx : ∀ c, x = some c → L c) : t.everyCall L := by
  intro j c hc
  rw [ht] at hc
  obtain ⟨h, -⟩ | ⟨-, h⟩ := slot_of_set hc
  · exact hx c h
  · exact hs j c h

theorem Calm.everyCall {L : Call → Prop} (hL : Call.Kept L) {s t : State} (h : Calm s t) (hs : s.everyCall L) : t.everyCall L := by
  induction h with
  | refl | lanes | trace | port | retained | draws | maps | unmaps => exact hs
  | trans _ _ h h' => exact h' (h hs)
  | stage h hc => exact hs.set (State.commit_slots _ _ _) fun c e => by cases e; exact hL.step (hs _ _ h) hc
  | note h hc => exact hs.set (State.putCall_slots _ _ _) fun c e => by cases e; exact hL.note (hs _ _ h) hc
  | @schedules s i keys c _ _ hc =>
    refine hs.set (i := i) (x := some c.revised) ?_ fun c e => by cases e; exact hL.fresh hc
    rw [State.scheduleCall, State.commit_slots, State.mapKeys_slots]
  | retires => exact hs.set (State.retireSlot_slots _ _) fun c e => nomatch e

theorem State.everyCall_atReset (L : Call → Prop) (ret : Retained) (s : State) : (State.blocksAtReset ret s).everyCall L :=
  fun i c hc => by simp [State.blocksAtReset] at hc

theorem Works.everyCall {L : Call → Prop} (hL : Call.Kept L) {c : Instr} {u t : State} (h : Works c u t) (hu : u.everyCall L) :
    t.everyCall L := by
  have hdrift : ∀ {s t}, Drift s t → s.everyCall L → t.everyCall L := fun h hs =>
    h.law (P := State.everyCall L) (fun h hs => h.everyCall hL hs) (fun _ _ _ h => h) hs
  exact h.law (P := State.everyCall L) (fun _ _ _ h => h) (fun _ _ _ h => h) (State.everyCall_atReset L) (fun _ _ h => h)
    (fun h => hdrift h.drift) (fun h => hdrift h.drift) (fun v _ _ => hdrift (.resyncTake v)) (fun _ _ _ h => h) hu

/-- A law of every record that no stage, no count and no new call breaks is kept by every step. -/
theorem step_everyCall {L : Call → Prop} (hL : Call.Kept L) {s t : State} (hs : s.everyCall L) (h : step s = .next t) :
    t.everyCall L :=
  step_keeps (P := State.everyCall L) (fun _ _ _ _ _ _ h => h) (State.everyCall_atReset L) (fun _ _ h => h)
    (fun _ _ _ hw hu => hw.everyCall hL hu) hs h

/-! ### Eighth, ninth and tenth laws (R94, R143) -/

/-- The laws of ends and holds. -/
def Call.endLaws (c : Call) : Prop := c.endPresent ∧ c.eighthLaw ∧ c.ninthLaw ∧ c.tenthLaw

theorem Call.endLaws_revised (c : Call) : c.revised.endLaws ↔ c.endLaws := Iff.rfl

theorem le_drawnEnd (from_ : Nat) (draw : BitVec 32) (wr : Nat) : from_ ≤ drawnEnd from_ draw wr := Nat.le_add_right _ _

/-- The phases in which an end is pending, one by one. -/
theorem Phase.endPending_iff (p : Phase) : p.endPending = true ↔ p = .window ∨ p = .extended ∨ p = .traceHold := by
  cases p <;> simp [Phase.endPending]

theorem Call.endPresent_of_pending {c : Call} (h : c.phase.endPending = true) :
    c.endPresent ↔ c.tEnd.isSome = true ∧ c.draw.isSome = true := by
  unfold Call.endPresent
  obtain hp | hp | hp := (Phase.endPending_iff _).1 h <;> rw [hp]

theorem Call.eighthLaw_of_pending {c : Call} (h : c.phase.endPending = true) :
    c.eighthLaw ↔ ∀ t e, c.latestIn = some t → c.tEnd = some e → t < e := by
  unfold Call.eighthLaw
  obtain hp | hp | hp := (Phase.endPending_iff _).1 h <;> rw [hp]

/-- The laws of a record in CALL stay where its T_sched moves later and one extension more is counted. -/
theorem Call.endLaws_of_later {c : Call} {t : Nat} (h : c.phase = .call) (hc : c.endLaws) (ht : c.tSched ≤ t)
    (hext : c.extUsed < c.extCap) : Call.endLaws { c with tSched := t, extUsed := c.extUsed + 1 } := by
  obtain ⟨hend, heighth, hninth, htenth⟩ := hc
  refine ⟨hend, ?_, ⟨hninth.1, hext⟩, htenth⟩
  simp only [Call.eighthLaw, h] at heighth ⊢
  exact fun x hx => (heighth x hx).trans_le ht

theorem Call.Step.endLaws {b : Bool} {c c' : Call} (h : c.Step b c') (hc : c.endLaws) : c'.endLaws := by
  obtain ⟨hend, heighth, hninth, htenth⟩ := hc
  have hopen : ∀ {x : Call}, x.phase = .scheduled ∨ x.phase = .call ∨ x.phase.endPending = true ∨ x.phase = .cancelled →
      x.tenthLaw := by
    intro x hx hclosed
    obtain hx | hx | hx | hx := hx <;> obtain h | h := hclosed <;> rw [h] at hx <;> cases hx
  cases h with
  | opens h =>
    simp only [Call.endPresent, Call.eighthLaw, h] at hend heighth
    exact ⟨hend, fun t ht => by simp [heighth] at ht, hninth, hopen (.inr (.inl rfl))⟩
  | cancels cause => exact ⟨trivial, trivial, hninth, hopen (.inr (.inr (.inr rfl)))⟩
  | windows draw h =>
    simp only [Call.eighthLaw, h] at heighth
    refine ⟨⟨rfl, rfl⟩, fun t e ht he => ?_, hninth, hopen (.inr (.inr (.inl rfl)))⟩
    rw [Call.windowed, Option.some.injEq] at he
    exact he ▸ (heighth t ht).trans_le (le_drawnEnd _ _ _)
  | settles dg h hcl =>
    rw [Call.endPresent_of_pending h] at hend
    rw [Call.eighthLaw_of_pending h] at heighth
    refine ⟨hend, heighth, hninth, fun _ => ⟨dg, rfl, rfl, fun hshort => ?_⟩⟩
    have hshort' : dg.meets c.required = false := hshort
    simp only [Call.closes, hshort', Bool.false_or, decide_eq_true_eq] at hcl
    exact le_antisymm hninth.1 hcl
  | holds h hlt =>
    rw [Call.endPresent_of_pending h] at hend
    rw [Call.eighthLaw_of_pending h] at heighth
    refine ⟨⟨by simpa [Call.heldOn] using hend.1, hend.2⟩, fun t e ht he => ?_, ⟨hlt, hninth.2⟩, hopen (.inr (.inr (.inl rfl)))⟩
    obtain ⟨e₀, he₀, he⟩ := Option.map_eq_some_iff.1 he
    exact he ▸ (heighth t e₀ ht he₀).trans_le (Nat.le_add_right _ _)
  | uncrosses h =>
    simp only [Call.endPresent, Call.eighthLaw, h] at hend heighth
    exact ⟨hend, heighth, hninth, fun _ => htenth (.inl h)⟩
  | retimes q arrival h =>
    obtain h | ⟨h, hsched⟩ := h
    · simp only [Call.endPresent, Call.eighthLaw, h] at hend heighth
      refine ⟨?_, ?_, hninth, hopen (.inl h)⟩
      · simpa only [Call.endPresent, Call.retimed, h] using hend
      · simpa only [Call.eighthLaw, Call.retimed, h] using heighth
    · simp only [Call.endPresent, Call.eighthLaw, h] at hend heighth
      refine ⟨?_, ?_, hninth, hopen (.inr (.inl h))⟩
      · simpa only [Call.endPresent, Call.retimed, h] using hend
      · simp only [Call.eighthLaw, Call.retimed, h]
        intro t ht
        cases hq : q.tSched with
        | none => exact heighth t ht
        | some x =>
          simp only [hq, Option.all_some, Call.schedOk, ht, Bool.and_eq_true, decide_eq_true_eq] at hsched
          exact hsched.2
  | extendsInCall applied h hlt => exact Call.endLaws_of_later h ⟨hend, heighth, hninth, htenth⟩ (Nat.le_add_right _ _) hlt
  | extendsInWindow arrival applied draw h hlt =>
    have hp : c.phase.endPending = true := by obtain h | h := h <;> rw [h] <;> rfl
    rw [Call.endPresent_of_pending hp] at hend
    rw [Call.eighthLaw_of_pending hp] at heighth
    refine ⟨⟨rfl, rfl⟩, fun t e ht he => ?_, ⟨hninth.1, hlt⟩, hopen (.inr (.inr (.inl rfl)))⟩
    obtain ⟨e₀, he₀⟩ := Option.isSome_iff_exists.1 hend.1
    simp only [Call.extendedInWindow, he₀, Option.getD_some, Option.some.injEq] at he
    rw [← he]
    exact (heighth t e₀ ht he₀).trans_le (le_max_left _ _)

/-- A stamp is ruled IN_CALL only before the time that the call's end is drawn from, and then before its end (R92, R94). -/
theorem Call.eighthLaw_of_inCall {c : Call} {t : Nat} (hcall : c.phase = .call → t < c.tSched) (hend : c.endReached t = false)
    (hrule : c.rule t = .inCall) (hc : c.eighthLaw) :
    Call.eighthLaw { c with inCall := satInc cap32 c.inCall, latestIn := some (max (c.latestIn.getD 0) t) } := by
  have hbound : ∀ {e : Nat}, t < e → (∀ x, c.latestIn = some x → x < e) →
      ∀ x, some (max (c.latestIn.getD 0) t) = some x → x < e := by
    intro e ht hlast x hx
    cases hx
    cases hl : c.latestIn with
    | none => simpa using ht
    | some y => exact max_lt (hlast y hl) ht
  have hbefore : ∀ {e : Nat}, c.phase.endPending = true → c.tEnd = some e → t < e := by
    intro e hp he
    simpa [Call.endReached, hp, he] using hend
  cases hp : c.phase with
  | scheduled | cancelled => simp [Call.rule, hp] at hrule
  | call =>
    simp only [Call.eighthLaw, hp] at hc ⊢
    exact hbound (hcall hp) hc
  | window | extended | traceHold =>
    simp only [Call.eighthLaw, hp] at hc ⊢
    exact fun x e hx he => hbound (hbefore (by rw [hp]; rfl) he) (fun y hy => hc y e hy he) x hx
  | settling =>
    simp only [Call.eighthLaw, hp] at hc ⊢
    intro x e hx he
    have ht : t < e := by
      simp only [Call.rule, hp, Call.beforeEnd, he, Option.any_some, decide_eq_true_eq] at hrule
      split at hrule
      · cases hrule
      · split at hrule
        · assumption
        · cases hrule
    exact hbound ht (fun y hy => hc y e hy he) x hx
  | uncrossDue =>
    simp only [Call.rule, hp] at hrule
    split at hrule <;> cases hrule

theorem Call.Note.endLaws {c c' : Call} (h : c.Note c') (hc : c.endLaws) : c'.endLaws := by
  obtain ⟨hend, heighth, hninth, htenth⟩ := hc
  cases h with
  | counts t hcall hreached =>
    unfold Call.counted
    split
    · next hr => exact ⟨hend, Call.eighthLaw_of_inCall hcall hreached hr heighth, hninth, htenth⟩
    · split
      · exact ⟨hend, heighth, hninth, htenth⟩
      · exact ⟨hend, heighth, hninth, htenth⟩
    all_goals exact ⟨hend, heighth, hninth, htenth⟩
  | notifies => exact ⟨hend, heighth, hninth, htenth⟩

theorem Call.fresh.endLaws {c : Call} (h : c.fresh) : c.endLaws := by
  obtain ⟨q, required, rfl⟩ := h
  exact ⟨⟨rfl, rfl⟩, rfl, ⟨Nat.zero_le _, Nat.zero_le _⟩, fun h => by obtain h | h := h <;> cases h⟩

theorem Call.endLaws_kept : Call.Kept Call.endLaws where
  step hc h := (Call.endLaws_revised _).2 (h.endLaws hc)
  note hc h := h.endLaws hc
  fresh h := (Call.endLaws_revised _).2 h.endLaws

/-- Settles O51. -/
theorem callsKeepTheirEndsAndTheirHolds : Obligations.CallsKeepTheirEndsAndTheirHolds :=
  fun _ _ hs h => step_everyCall Call.endLaws_kept hs h

/-! ### Eleventh law (R116, R131) -/

/-- A change that makes no stage leaves a record's due time (R115, R131). -/
theorem Call.Note.dueTime {c c' : Call} (h : c.Note c') (lim : DeviceLimits) : c'.dueTime lim = c.dueTime lim := by
  cases h with
  | counts t =>
    unfold Call.counted
    (repeat' split) <;> rfl
  | notifies => rfl

theorem Call.dueTime_of_not_due {c : Call} (h : c.phase.due = false) (lim : DeviceLimits) : c.dueTime lim = none := by
  unfold Call.dueTime
  cases hp : c.phase <;> rw [hp] at h <;> simp_all [Phase.due]

theorem slot_set (v : Vector (Option Call) 64) (i j : Fin 64) (x : Option Call) : (v.set i x)[j] = if j = i then x else v[j] := by
  by_cases h : j = i
  · subst h; simp
  · have h' : i.val ≠ j.val := fun e => h (Fin.ext e.symm)
    simp [h, h']

/-- The eleventh law of a table with one slot written, its entry refiled, and keys in the map. -/
theorem State.eleventhLaw.set {s t : State} (hs : s.eleventhLaw) {i : Fin 64} {x : Option Call}
    (hslots : t.slots = s.slots.set i x) (hlim : t.ops.limits = s.ops.limits) (hmap : mapWf t.groupMap = true)
    (hkeys : ∀ e ∈ t.groupMap, e.2 = i ∧ x.isSome = true ∨ e.2 ≠ i ∧ e ∈ s.groupMap)
    (hexp : expiryWf t.expiry = true) (hdue : expiryOf i t.expiry = x.bind (Call.dueTime s.ops.limits))
    (hother : ∀ j, j ≠ i → expiryOf j t.expiry = expiryOf j s.expiry) : t.eleventhLaw := by
  obtain ⟨-, -, hk, hd⟩ := hs
  refine ⟨hmap, hexp, fun e he => ?_, fun j => ?_⟩
  · rw [hslots, slot_set]
    obtain ⟨rfl, hx⟩ | ⟨hne, he⟩ := hkeys e he
    · rw [if_pos rfl]; exact hx
    · rw [if_neg hne]; exact hk e he
  · rw [hslots, hlim, slot_set]
    split
    · next h => rw [h]; exact hdue
    · next h => exact (hother j h).trans (hd j)

/-- A map whose keys of slot `i` are allowed there. -/
theorem mapKeys_split {m : List (Nat × Fin 64)} {i : Fin 64} {x : Option Call} (h : x.isSome = true) :
    ∀ e ∈ m, e.2 = i ∧ x.isSome = true ∨ e.2 ≠ i ∧ e ∈ m := fun e he => by
  by_cases hi : e.2 = i
  · exact .inl ⟨hi, h⟩
  · exact .inr ⟨hi, he⟩

theorem foldl_mapInsert_wf {keys : List Nat} (hk : ∀ k ∈ keys, k < 4096) (i : Fin 64) {m : List (Nat × Fin 64)}
    (h : mapWf m = true) : mapWf (keys.foldl (fun m k => mapInsert k i m) m) = true := by
  induction keys generalizing m with
  | nil => exact h
  | cons k keys ih =>
    exact ih (fun k' h' => hk k' (List.mem_cons_of_mem k h')) (mapInsert_wf (hk k List.mem_cons_self) i h)

theorem mem_foldl_mapInsert {keys : List Nat} {i : Fin 64} {m : List (Nat × Fin 64)} {e : Nat × Fin 64}
    (h : e ∈ keys.foldl (fun m k => mapInsert k i m) m) : e.2 = i ∨ e ∈ m := by
  induction keys generalizing m with
  | nil => exact .inr h
  | cons k keys ih =>
    obtain h | h := ih h
    · exact .inl h
    · exact (mem_mapInsert h).imp (fun h => by rw [h]) id

theorem Calm.eleventhLaw {s t : State} (h : Calm s t) (hs : s.eleventhLaw) : t.eleventhLaw := by
  induction h with
  | refl | lanes | trace | retained | draws => exact hs
  | @port s o hl =>
    unfold State.eleventhLaw
    rw [hl]
    exact hs
  | trans _ _ h h' => exact h' (h hs)
  | @stage s i c c' h hc =>
    obtain ⟨hm, he, -, -⟩ := id hs
    exact hs.set (State.commit_slots _ _ _) rfl hm (mapKeys_split rfl) (expiryRefile_wf i _ he) (expiryOf_refile_same i _ _)
      fun j hj => expiryOf_refile_other hj _ _
  | @note s i c c' h hc =>
    obtain ⟨hm, he, -, hd⟩ := id hs
    refine hs.set (State.putCall_slots _ _ _) rfl hm (mapKeys_split rfl) he ?_ fun j _ => rfl
    show expiryOf i s.expiry = c'.dueTime _
    rw [hc.dueTime, hd i, h]
    rfl
  | @schedules s i keys c h hk hc =>
    obtain ⟨hm, he, -, -⟩ := id hs
    refine hs.set (i := i) (x := some c.revised) (by rw [State.scheduleCall, State.commit_slots, State.mapKeys_slots]) rfl
      (foldl_mapInsert_wf hk i hm) (fun e he => ?_) (expiryRefile_wf i _ he) (expiryOf_refile_same i _ _)
      fun j hj => expiryOf_refile_other hj _ _
    by_cases hi : e.2 = i
    · exact .inl ⟨hi, rfl⟩
    · exact .inr ⟨hi, (mem_foldl_mapInsert he).resolve_left hi⟩
  | @retires s i c h hc =>
    obtain ⟨hm, he, -, hd⟩ := id hs
    refine hs.set (State.retireSlot_slots _ _) rfl (mapEraseSlot_wf i hm) (fun e he => ?_) he ?_ fun j _ => rfl
    · obtain ⟨he, hi⟩ := List.mem_filter.1 he
      exact .inr ⟨by simpa using hi, he⟩
    · show expiryOf i s.expiry = none
      rw [hd i, h]
      exact Call.dueTime_of_not_due hc _
  | @maps s k i h hk =>
    obtain ⟨hm, he, hkeys, hd⟩ := hs
    refine ⟨mapInsert_wf hk i hm, he, fun e he => ?_, hd⟩
    obtain rfl | he := mem_mapInsert he
    · exact h
    · exact hkeys e he
  | unmaps s k =>
    obtain ⟨hm, he, hkeys, hd⟩ := hs
    exact ⟨mapErase_wf k hm, he, fun e he => hkeys e (List.mem_of_mem_filter he), hd⟩

/-- Cmax and the settle guard move no due time while no call is live (R156). -/
theorem State.eleventhLaw.limits {s : State} (hs : s.eleventhLaw) {d : DeviceLimits}
    (h : (s.ops.limits.movesSettle d && s.anyLive) = false) : State.eleventhLaw { s with ops := { s.ops with limits := d } } := by
  obtain ⟨hm, he, hkeys, hd⟩ := hs
  refine ⟨hm, he, hkeys, fun i => (hd i).trans ?_⟩
  show s.slots[i].bind _ = s.slots[i].bind _
  cases hc : s.slots[i] with
  | none => rfl
  | some c =>
    show c.dueTime s.ops.limits = c.dueTime d
    cases hmoves : s.ops.limits.movesSettle d with
    | false =>
      simp only [DeviceLimits.movesSettle, Bool.or_eq_false_iff, bne_eq_false_iff_eq] at hmoves
      simp only [Call.dueTime, hmoves.1, hmoves.2]
    | true =>
      rw [hmoves, Bool.true_and] at h
      have hnot : c.phase ≠ .settling := fun hp =>
        Bool.noConfusion (h.symm.trans ((State.anyLive_iff s).2 ⟨i, c, hc, by rw [hp]; rfl⟩))
      unfold Call.dueTime
      cases hp : c.phase with
      | settling => exact absurd hp hnot
      | _ => rfl

theorem State.eleventhLaw_atReset (ret : Retained) (s : State) : (State.blocksAtReset ret s).eleventhLaw := by
  refine ⟨rfl, rfl, fun e he => (nomatch he), fun i => ?_⟩
  have hslot : (State.blocksAtReset ret s).slots[i] = none := by simp [State.blocksAtReset]
  rw [hslot]
  rfl

/-- Settles O52. -/
theorem keysAndExpiriesFollowTheTable : Obligations.KeysAndExpiriesFollowTheTable := by
  intro s t hs h
  have hdrift : ∀ {s t}, Drift s t → s.eleventhLaw → t.eleventhLaw := fun h hs =>
    h.law (P := State.eleventhLaw) Calm.eleventhLaw (fun _ _ _ h => h) hs
  refine step_keeps (P := State.eleventhLaw) (fun _ _ _ _ _ _ h => h) State.eleventhLaw_atReset (fun _ _ h => h)
    (fun c u t hw hu => ?_) hs h
  refine hw.law (P := State.eleventhLaw) (fun _ _ _ h => h) (fun s o hl hs => ?_) State.eleventhLaw_atReset (fun _ _ h => h)
    (fun h => hdrift h.drift) (fun h => hdrift h.drift) (fun v _ _ => hdrift (.resyncTake v)) (fun v d h hv => hv.limits h) hu
  unfold State.eleventhLaw
  rw [hl]
  exact hs

end Sys2Proof.Machine
end

section
/-! PROOFS. The secrecy of the end (seventh law, R149): what a reply gives out, and which frames can join a transmit queue. -/

namespace Sys2Proof.Machine

/-! ### Which answers hold a snapshot -/

/-- The payload is a snapshot of a record. -/
def Body.isSnapshot : Body → Bool
  | .snapshot _ => true
  | _ => false

theorem Body.keepsSecret_of_other {b : Body} (h : b.isSnapshot = false) : b.keepsSecret := by
  cases b with
  | snapshot => cases h
  | _ => trivial

/-- A request with an addressing form answers what its entry does, where that does not refuse. -/
theorem addressed_body {P : Body → Prop} (hempty : P .empty) {off : Nat} {p : Path} {b : List Byte}
    {act : Fin 64 → State → State × Answer} {s : State} (hact : ∀ i u, u.slots = s.slots → P (act i u).2.body) :
    P (addressed off p b act s).2.body := by
  obtain ⟨c, h⟩ | ⟨i, wrap, s', ⟨rfl, -⟩ | rfl, h⟩ := addressed_cases off p b act s <;> rw [h]
  · exact hempty
  · exact hact i s' rfl
  · exact hact i _ (by cases p <;> rfl)

/-- QUERY_AUCTION alone gives out a snapshot. -/
theorem Kind.block_isSnapshot {k : Kind} (hk : k ≠ .queryAuction) (p : Path) (instant : Nat) (b : List Byte) (s : State) :
    (k.block p instant b s).2.body.isSnapshot = false := by
  cases k with
  | queryAuction => exact absurd rfl hk
  | echo | systemReset | retainedRead | readAlerts | closeInterval | readTime | traceReport => rfl
  | stamp | stampKeyed =>
    cases p with
    | lane l =>
      simp only [Kind.block, stampBlock, stampKeyedBlock]
      (repeat' split) <;> rfl
    | ops => rfl
  | subscribe | unsubscribe | cancel | retire =>
    refine addressed_body (P := fun x => x.isSnapshot = false) rfl fun i u _ => ?_
    (repeat' split) <;> rfl
  | reschedule =>
    refine addressed_body (P := fun x => x.isSnapshot = false) rfl fun i u _ => ?_
    simp only [rescheduleScheduled, rescheduleCall, State.retime]
    (repeat' split) <;> rfl
  | extend =>
    refine addressed_body (P := fun x => x.isSnapshot = false) rfl fun i u _ => ?_
    simp only [State.judgeExtend]
    (repeat' split) <;> rfl
  | mapKey =>
    simp only [Kind.block, mapKeyBlock]
    split
    · rfl
    · refine addressed_body (P := fun x => x.isSnapshot = false) rfl fun i u _ => ?_
      (repeat' split) <;> rfl
  | schedule | unmapKey =>
    simp only [Kind.block, scheduleBlock, unmapKeyBlock]
    (repeat' split) <;> rfl
  | setTimescale | setReference | armReference | setLane | setDeviceLimits | setAlertMask | retainedEnable | retainedWrite =>
    simp only [Kind.block, setTimescaleBlock, setReferenceBlock, armReferenceBlock, setLaneBlock, setDeviceLimitsBlock,
      setAlertMaskBlock, retainedEnableBlock, retainedWriteBlock]
    (repeat' split) <;> rfl
  | calibrate | laneStatus | disableReference | readReference | setTrace | resync =>
    simp only [Kind.block, calibrateBlock, laneStatusBlock, disableReferenceBlock, readReferenceBlock, setTraceBlock, resyncBlock]
    (repeat' split) <;> rfl

/-! ### Records whose end is dropped unless it was taken (R125) -/

/-- A cancelled record holds no end without its close grade, and a closed one holds its close grade. -/
def Call.secretLaw (c : Call) : Prop :=
  c.cancelLaw ∧ (c.phase = .settling ∨ c.phase = .uncrossDue → c.closeGrade.isSome = true)

/-- A record that is neither cancelled nor closed. -/
theorem Call.secretLaw_of_open {c : Call} (hcancel : c.phase ≠ .cancelled) (hsettle : c.phase ≠ .settling)
    (huncross : c.phase ≠ .uncrossDue) : c.secretLaw :=
  ⟨fun h => absurd h hcancel, fun h => h.elim (absurd · hsettle) (absurd · huncross)⟩

theorem Call.secretLaw_of_laws {c : Call} (hcancel : c.cancelLaw) (htenth : c.tenthLaw) : c.secretLaw :=
  ⟨hcancel, fun h => by
    obtain ⟨g, hg, -⟩ := htenth h
    rw [hg]
    rfl⟩

/-- A CANCEL in SETTLING keeps the end with its close grade; in every other phase it drops the end (R125). -/
theorem Call.secretLaw_cancelledBy {c : Call} (cause : CancelCause) (hc : c.secretLaw) : (c.cancelledBy cause).secretLaw := by
  refine ⟨fun _ hsome => ?_, fun h => h.elim (nomatch ·) (nomatch ·)⟩
  by_cases hp : c.phase = .settling
  · exact hc.2 (.inl hp)
  · simp [Call.cancelledBy, hp] at hsome

/-- A T_sched moved in CALL. -/
theorem Call.secretLaw_of_later {c : Call} (h : c.phase = .call) (t n : Nat) :
    Call.secretLaw { c with tSched := t, extUsed := n } :=
  Call.secretLaw_of_open (by rw [h]; decide) (by rw [h]; decide) (by rw [h]; decide)

theorem Call.Step.secretLaw {b : Bool} {c c' : Call} (h : c.Step b c') (hc : c.secretLaw) : c'.secretLaw := by
  cases h with
  | opens | windows | holds | extendsInWindow =>
    exact Call.secretLaw_of_open (nomatch ·) (nomatch ·) (nomatch ·)
  | cancels cause => exact Call.secretLaw_cancelledBy cause hc
  | settles => exact ⟨(nomatch ·), fun _ => rfl⟩
  | uncrosses h => exact ⟨(nomatch ·), fun _ => hc.2 (.inl h)⟩
  | retimes q arrival h =>
    have hp : (c.retimed q).phase = c.phase := rfl
    refine Call.secretLaw_of_open ?_ ?_ ?_ <;> obtain h | ⟨h, -⟩ := h <;> rw [hp, h] <;> decide
  | extendsInCall applied h => exact Call.secretLaw_of_later h _ _

theorem Call.Note.secretLaw {c c' : Call} (h : c.Note c') (hc : c.secretLaw) : c'.secretLaw := by
  cases h with
  | counts t =>
    unfold Call.counted
    (repeat' split) <;> exact hc
  | notifies => exact hc

theorem Call.secretLaw_kept : Call.Kept Call.secretLaw where
  step hc h := h.secretLaw hc
  note hc h := h.secretLaw hc
  fresh h := by
    obtain ⟨q, required, rfl⟩ := h
    exact Call.secretLaw_of_open (nomatch ·) (nomatch ·) (nomatch ·)

/-! ### What an answer gives out -/

theorem Call.revealed_of_told {c : Call} (h : c.phase.endTold = true) : c.revealed = c := by
  unfold Call.revealed
  split
  · rfl
  · rfl
  · rfl
  all_goals next hp => rw [hp] at h; cases h

theorem Call.revealed_of_not_told {c : Call} (h : c.phase.endTold = false) :
    c.revealed = { c with tEnd := none, draw := none, closeGrade := none, untracedFlag := none } := by
  unfold Call.revealed
  cases hp : c.phase <;> rw [hp] at h <;> cases h

theorem State.snapshot_keepsSecret {s : State} (hs : s.everyCall Call.secretLaw) (i : Fin 64) :
    (Body.snapshot (s.snapshot i)).keepsSecret := by
  intro c hc
  obtain ⟨c₀, hc₀, rfl⟩ := Option.map_eq_some_iff.1 hc
  cases ht : c₀.phase.endTold with
  | true =>
    rw [Call.revealed_of_told ht]
    exact ⟨fun h => Bool.noConfusion (ht.symm.trans h), (hs i c₀ hc₀).1⟩
  | false =>
    rw [Call.revealed_of_not_told ht]
    exact ⟨fun _ => ⟨rfl, rfl⟩, fun _ h => h.elim (nomatch ·) (nomatch ·)⟩

theorem Kind.block_keepsSecret {s : State} (hs : s.everyCall Call.secretLaw) (k : Kind) (p : Path) (instant : Nat)
    (b : List Byte) : (k.block p instant b s).2.body.keepsSecret := by
  by_cases hk : k = .queryAuction
  · subst hk
    refine addressed_body (P := Body.keepsSecret) trivial fun i u hu => ?_
    exact State.snapshot_keepsSecret (s := u) (fun j c hc => hs j c (hu ▸ hc)) i
  · exact Body.keepsSecret_of_other (k.block_isSnapshot hk p instant b s)

theorem LaneServed.keepsSecret {c : Instr} {u v : State} {l : Fin 16} {r : State × Answer} (h : LaneServed c u l v r)
    (hv : v.everyCall Call.secretLaw) : r.2.body.keepsSecret := by
  obtain ⟨code, rfl⟩ | ⟨k, latch, b, -, rfl, -⟩ := h
  · trivial
  · exact k.block_keepsSecret hv _ _ _

theorem PortServed.keepsSecret {c : Instr} {v : State} {r : State × Answer} (h : PortServed c v r)
    (hv : v.everyCall Call.secretLaw) : r.2.body.keepsSecret := by
  obtain ⟨code, rfl⟩ | ⟨k, tag, b, -, -, rfl⟩ := h
  · trivial
  · exact k.block_keepsSecret hv _ _ _

/-! ### Which frames join a transmit queue -/

/-- What a frame that a command puts in a transmit queue is: a PHASE_NOTICE or a probe, a reply, or at the settle expiry of a call in
SETTLING its CLOSE_NOTICE (R76, R146). -/
inductive Joins (c : Instr) (u : State) : TxFrame → Prop
  | plain {f : TxFrame} (h : f.plain = true) : Joins c u f
  | reply {r : Reply} (h : u.everyCall Call.secretLaw → r.body.keepsSecret) : Joins c u (.reply r)
  | closes {dt : Nat} {i : Fin 64} {x : Call} (hc : c = .settleExpiry dt i) (hx : u.slots[i] = some x)
      (hp : x.phase = .settling) : Joins c u (Call.closeNotice i (Call.revised { x with phase := .uncrossDue }))

theorem Joins.of_closeNotice {c : Instr} {u : State} {n : CloseNotice} (h : Joins c u (.closeNotice n)) :
    ∃ dt i x, c = .settleExpiry dt i ∧ u.slots[i] = some x ∧ x.phase = .settling := by
  cases h with
  | plain h => cases h
  | closes hc hx hp => exact ⟨_, _, _, hc, hx, hp⟩

theorem TxFrame.keepsSecret_of_plain {f : TxFrame} (h : f.plain = true) : f.keepsSecret := by
  cases f with
  | phaseNotice | probe => trivial
  | reply | closeNotice => cases h

theorem Joins.keepsSecret {c : Instr} {u : State} {f : TxFrame} (h : Joins c u f) (hu : u.everyCall Call.secretLaw) :
    f.keepsSecret := by
  cases h with
  | @plain f h => exact TxFrame.keepsSecret_of_plain h
  | reply h => exact h hu
  | closes _ hx hp => exact (hu _ _ hx).2 (.inl hp)

theorem Lane.mem_placeNotice {n : Lane} {f g : TxFrame} (h : f ∈ (n.placeNotice g).tx) : f ∈ n.tx ∨ f = g := by
  obtain ⟨-, -, he⟩ | ⟨-, -, he⟩ | ⟨-, he⟩ := placeNotice_cases g n <;> rw [he] at h
  · exact (List.mem_append.1 h).imp_right List.mem_singleton.1
  · exact .inl h
  · exact .inl h

/-- Frames of a lane's transmit queue after a command stood there before, or joined it. -/
theorem Works.tx {c : Instr} {u t : State} (h : Works c u t) (l : Fin 16) {f : TxFrame} (hf : f ∈ t.lanes[l].tx) :
    f ∈ u.lanes[l].tx ∨ Joins c u f := by
  have hholds : ∀ {n n' : Lane}, n.Holds n' → f ∈ n'.tx → f ∈ n.tx ∨ Joins c u f := fun h hf => (h.tx f hf).imp_right .plain
  have hsub : ∀ {m : Fin 16} {g : Lane → Lane}, (∀ x ∈ (g u.lanes[m]).tx, x ∈ u.lanes[m].tx) →
      f ∈ (u.onLane m g).lanes[l].tx → f ∈ u.lanes[l].tx := by
    intro m g hg hf
    by_cases hm : l = m
    · subst hm
      rw [State.onLane_same] at hf
      exact hg f hf
    · rwa [State.onLane_other u m l hm] at hf
  cases h with
  | follows h => exact hholds (h.drift.keeps l).toHolds hf
  | saves _ h h' => exact hholds ((h.drift.keeps l).trans (h'.drift.keeps l)).toHolds hf
  | @settles dt i x hc hx hp =>
    have hcommit := hholds ((Calm.stage hx (.uncrosses hp)).keeps l).toHolds
    rw [State.settleCall_lane] at hf
    split at hf
    · obtain hf | rfl := Lane.mem_placeNotice hf
      · exact hcommit hf
      · exact .inr (.closes hc hx hp)
    · exact hcommit hf
  | receives hmoves h => exact (hholds (h.keeps l).toHolds hf).imp_left (hsub hmoves.tx)
  | @takes m g r kind tag hready hr =>
    have hserved : f ∈ r.1.lanes[l].tx → f ∈ u.lanes[l].tx ∨ Joins c u f := by
      obtain h | ⟨k, latch, -, -, h⟩ := LaneServed.works (by rw [State.onLane_same]; exact hready.up) hr
      · exact fun hf => (hholds (h.keeps l).toHolds hf).imp_left (hsub hready.tx)
      · exact fun hf => (hholds (h.holds l) hf).imp_left (hsub hready.tx)
    by_cases hm : l = m
    · subst hm
      rw [State.onLane_same] at hf
      obtain hf | hf := List.mem_append.1 hf
      · exact hserved hf
      · rw [List.mem_singleton.1 hf]
        exact .inr (.reply hr.keepsSecret)
    · rw [State.onLane_other _ m l hm] at hf
      exact hserved hf
  | takesWrite hr => exact hholds (hr.works.keeps l).toHolds hf
  | @transfers _ part =>
    obtain ⟨o, ho, -⟩ := opsTransfer_port part u
    rw [ho] at hf
    exact .inl hf
  | restarts =>
    have hlane : (u.written.beginRun .resetRequest).lanes[l] = Lane.atReset := by simp [State.beginRun, State.blocksAtReset]
    rw [hlane] at hf
    cases hf

/-! ### The reply that the port holds -/

/-- A READ empties the buffer or leaves it (R154). -/
theorem OpsPort.endRead_reply {part : OpsTransfer} {o : OpsPort} {r : Reply} (h : (o.endRead part).reply = some r) :
    o.reply = some r := by
  unfold OpsPort.endRead at h
  split at h
  · cases h
  · split at h
    · cases h
    · exact h
  all_goals exact h

theorem opsTransfer_reply {part : OpsTransfer} {s : State} {r : Reply} (h : (opsTransfer part s).ops.reply = some r) :
    s.ops.reply = some r := by
  unfold opsTransfer at h
  split at h
  · exact h
  all_goals
    split at h
    · exact OpsPort.endRead_reply h
    · exact h

theorem Works.reply {c : Instr} {u t : State} (h : Works c u t) (hu : u.everyCall Call.secretLaw)
    (hr : ∀ r, u.ops.reply = some r → r.body.keepsSecret) : ∀ r, t.ops.reply = some r → r.body.keepsSecret := by
  have hsame : ∀ {w : State}, w.ops.reply = u.ops.reply → ∀ r, w.ops.reply = some r → r.body.keepsSecret :=
    fun h r hw => hr r (h ▸ hw)
  cases h with
  | follows h => exact hsame h.drift.undisturbed.reply
  | saves _ h h' => exact hsame (h.drift.undisturbed.trans h'.drift.undisturbed).reply
  | settles => exact hr
  | receives _ h => exact hsame h.undisturbed.reply
  | takes hready hs =>
    obtain h | ⟨k, latch, -, -, h⟩ := LaneServed.works (by rw [State.onLane_same]; exact hready.up) hs
    · exact hsame h.undisturbed.reply
    · exact hsame h.undisturbed.reply
  | takesWrite hs =>
    intro r hw
    cases hw
    exact hs.keepsSecret hu
  | transfers => exact fun r hw => hr r (opsTransfer_reply hw)
  | restarts => exact fun r hw => nomatch hw

/-! ### The seventh law -/

/-- The secrecy law, carried with what it rests on. -/
def State.secretLaw (s : State) : Prop := s.seventhLaw ∧ s.everyCall Call.secretLaw

theorem State.secretLaw_atReset (ret : Retained) (s : State) : (State.blocksAtReset ret s).secretLaw := by
  refine ⟨⟨fun r h => (nomatch h), fun l f hf => ?_, fun i c hc => ?_⟩, fun i c hc => ?_⟩
  · simp [State.blocksAtReset, Lane.atReset] at hf
  · simp [State.blocksAtReset] at hc
  · simp [State.blocksAtReset] at hc

theorem Works.secretLaw {c : Instr} {u t : State} (h : Works c u t) (hu : u.secretLaw) (ht : t.everyCall Call.secretLaw) :
    t.secretLaw := by
  obtain ⟨⟨hreply, htx, -⟩, hcalls⟩ := hu
  refine ⟨⟨h.reply hcalls hreply, fun l f hf => ?_, fun i c hc => (ht i c hc).1⟩, ht⟩
  exact (h.tx l hf).elim (htx l f) fun hj => hj.keepsSecret hcalls

/-- Settles O53. -/
theorem noReplyTellsAnEndNotTaken : Obligations.NoReplyTellsAnEndNotTaken := by
  refine ⟨fun s t hs htenth h => ?_, fun c s t l n h hn hnot => ?_⟩
  · have hs' : s.secretLaw := ⟨hs, fun i c hc => Call.secretLaw_of_laws (hs.2.2 i c hc) (htenth i c hc)⟩
    have hstep := step_keeps (P := State.secretLaw) (fun _ _ _ _ _ _ h => h) State.secretLaw_atReset (fun _ _ h => h)
      (fun c u t hw hu => hw.secretLaw hu (hw.everyCall Call.secretLaw_kept hu.2)) hs' h
    exact hstep.1
  · cases hc : c.isPower with
    | true =>
      obtain ⟨t', he, ⟨ret, pin, backup, rfl⟩ | ⟨ret, power, pin, backup, rfl⟩⟩ := exec_power hc s
      · cases he.symm.trans h
        exact absurd hn hnot
      · cases he.symm.trans h
        simp [State.blocksAtReset, Lane.atReset] at hn
    | false =>
      by_cases hp : s.power = .running
      · obtain hmem | hj := (exec_works hp hc h).tx l hn
        · exact absurd hmem hnot
        · obtain ⟨dt, i, x, hc', hx, hphase⟩ := hj.of_closeNotice
          exact ⟨dt, i, x, hc', hx, hphase⟩
      · cases (exec_still hc hp).symm.trans h
        exact absurd hn hnot

end Sys2Proof.Machine
end

section
/-! PROOFS. What a pulse, a break, an announcement and a silence do to the record of their port, and what the loss of the ACTIVE reference
in LOCKED does (chapter 2, 1.5). -/

namespace Sys2Proof.Machine

/-- The state that an event of a running part leaves. -/
theorem atEvent_next {s t : State} {dt : Nat} {act : State → State} (hp : s.power = .running) (h : act (s.elapse dt) = t) :
    s.atEvent dt act = .next t := (atEvent_running hp dt act).trans (congrArg _ h)

/-! ### One port's record -/

/-- The state with port `p`'s record replaced. -/
def State.putRef (p : Fin 4) (r : RefRecord) (s : State) : State := { s with refs := s.refs.set p r }

theorem State.onRef_eq_putRef (s : State) (p : Fin 4) (f : RefRecord → RefRecord) : s.onRef p f = s.putRef p (f s.refs[p]) := rfl

@[simp] theorem State.putRef_same (s : State) (p : Fin 4) (r : RefRecord) : (s.putRef p r).refs[p] = r := s.onRef_same p fun _ => r

theorem State.putRef_other (s : State) {p q : Fin 4} (h : q ≠ p) (r : RefRecord) : (s.putRef p r).refs[q] = s.refs[q] :=
  s.onRef_other p q h fun _ => r

theorem State.onRef_putRef (s : State) (p : Fin 4) (r : RefRecord) (f : RefRecord → RefRecord) :
    (s.putRef p r).onRef p f = s.putRef p (f r) := by
  rw [State.onRef_eq_putRef, State.putRef_same]
  simp [State.putRef]

theorem State.putRef_self (s : State) (p : Fin 4) : s.putRef p s.refs[p] = s := by
  simp [State.putRef]

/-! ### Rejections (R24, R28, R30) -/

section
variable (s : State) (p : Fin 4) (r : RefRecord)

/-- A rejection before the K-th counts and leaves the reference where it is. -/
theorem State.rejectMark_early (mark : Option Mark) (h : r.rejects + 1 < r.config.rejectLimit) :
    (s.putRef p r).rejectMark p mark = s.putRef p r.reject := by
  simp only [State.rejectMark, State.onRef_putRef, State.putRef_same]
  exact if_pos h

/-- The K-th rejection of a reference that is not ACTIVE takes it to QUALIFYING. -/
theorem State.rejectMark_reanchors (mark : Option Mark) (h : r.config.rejectLimit ≤ r.rejects + 1) (ha : r.state ≠ .active) :
    (s.putRef p r).rejectMark p mark = s.putRef p (r.reject.reanchor mark) := by
  simp only [State.rejectMark, State.onRef_putRef, State.putRef_same]
  rw [if_neg (by exact Nat.not_lt.2 h), if_neg (by exact ha)]

/-- The K-th rejection of the ACTIVE reference is its failure, and its loss. -/
theorem State.rejectMark_fails (mark : Option Mark) (h : r.config.rejectLimit ≤ r.rejects + 1) (ha : r.state = .active) :
    (s.putRef p r).rejectMark p mark =
      ((s.putRef p (r.reject.fail (mark.elim .codeError fun _ => .implausible))).raise .referenceFailed).loseActive := by
  simp only [State.rejectMark, State.onRef_putRef, State.putRef_same]
  rw [if_neg (by exact Nat.not_lt.2 h), if_pos (by exact ha)]
  simp only [State.failRef, State.onRef_putRef, State.putRef_same]
  exact if_pos ha

theorem State.codeError_putRef : (s.putRef p r).codeError p = (s.putRef p r.countCodeError).rejectMark p none := by
  simp only [State.codeError, State.onRef_putRef]

/-- A mark that departs from its prediction by more than M is rejected as implausible (R28). -/
theorem State.filterMark_implausible {m : Mark} (h : r.plausible s.ts.rate m.rawMark m.phi = false) :
    (s.putRef p r).filterMark p m = (s.putRef p r.countRejected).rejectMark p (some m) := by
  simp only [State.filterMark, State.putRef_same, State.onRef_putRef]
  exact if_neg (Bool.eq_false_iff.1 h)

/-- A plausible mark updates the record and is passed on (R28, R29, R45). -/
theorem State.filterMark_plausible {m : Mark} (h : r.plausible s.ts.rate m.rawMark m.phi = true) :
    (s.putRef p r).filterMark p m = (s.putRef p (r.accept m)).passOn p m (m.theta r.config.delay) := by
  simp only [State.filterMark, State.putRef_same, State.acceptMark, State.onRef_putRef]
  exact if_pos h

/-- An exchange second out of range is a code error (R25, R27). -/
theorem State.judgeSecond_out {count : Int} (h : count + r.config.secondOffset < 0 ∨ maxSecond < count + r.config.secondOffset)
    (tMark rawMark uRef : Nat) : (s.putRef p r).judgeSecond p count tMark rawMark uRef = (s.putRef p r).codeError p := by
  simp only [State.judgeSecond, State.putRef_same]
  exact if_pos h

/-- An exchange second in range makes the mark, which the filter judges (R25, R28). -/
theorem State.judgeSecond_in {count : Int} (h0 : 0 ≤ count + r.config.secondOffset)
    (h1 : count + r.config.secondOffset ≤ maxSecond) (tMark rawMark uRef : Nat) :
    (s.putRef p r).judgeSecond p count tMark rawMark uRef =
      (s.putRef p r).filterMark p (markOf (count + r.config.secondOffset) tMark rawMark uRef) := by
  simp only [State.judgeSecond, State.putRef_same]
  exact if_neg (by omega)

/-- The edge of a port with a code error, or a code that makes no second in range, is a code error (R24, R25). -/
theorem State.decodeEdge_error (lines : BitVec 48) {error : Bool}
    (h : error = true ∨ fullCount r.config s.ts.state s.now (codeValue r.config lines) + r.config.secondOffset < 0 ∨
      maxSecond < fullCount r.config s.ts.state s.now (codeValue r.config lines) + r.config.secondOffset) :
    (s.putRef p r).decodeEdge p lines error = (s.putRef p r).codeError p := by
  simp only [State.decodeEdge, State.putRef_same]
  split
  · rfl
  · next he => exact s.judgeSecond_out p r (h.resolve_left he) _ _ _

/-- A code that makes a second in range makes the edge's mark, which the filter judges (R25, R28). -/
theorem State.decodeEdge_in (lines : BitVec 48)
    (h0 : 0 ≤ fullCount r.config s.ts.state s.now (codeValue r.config lines) + r.config.secondOffset)
    (h1 : fullCount r.config s.ts.state s.now (codeValue r.config lines) + r.config.secondOffset ≤ maxSecond) :
    (s.putRef p r).decodeEdge p lines false = (s.putRef p r).filterMark p
      (markOf (fullCount r.config s.ts.state s.now (codeValue r.config lines) + r.config.secondOffset) s.now s.ts.raw
        r.config.uFloor) := by
  simp only [State.decodeEdge, State.putRef_same]
  exact s.judgeSecond_in p r h0 h1 _ _ _

end

/-! ### Plausible marks (R28) -/

theorem RefRecord.plausible_iff (r : RefRecord) (rate : Int) (rawMark : Nat) (phi : Int) :
    r.plausible rate rawMark phi = true ↔ ∀ last raw, r.lastPhi = some last → r.lastRaw = some raw →
      (phi - (last + (((rawMark : Int) - raw) * rate).tdiv (10 ^ 12))).natAbs ≤ r.config.maxChange := by
  unfold RefRecord.plausible RefRecord.predictedPhi
  cases hphi : r.lastPhi <;> cases hraw : r.lastRaw <;> simp

theorem RefRecord.not_plausible_iff (r : RefRecord) (rate : Int) (rawMark : Nat) (phi : Int) :
    r.plausible rate rawMark phi = false ↔ ∃ last raw, r.lastPhi = some last ∧ r.lastRaw = some raw ∧
      r.config.maxChange < (phi - (last + (((rawMark : Int) - raw) * rate).tdiv (10 ^ 12))).natAbs := by
  rw [← Bool.not_eq_true, RefRecord.plausible_iff]
  push Not
  rfl

theorem Mark.theta_eq (m : Mark) (d : Nat) : m.theta d = (m.tRef : Int) + d - m.tMark := rfl

/-- The record after an accepted mark: READY where it was QUALIFYING and consecutive good reaches N (R29, R31). -/
theorem RefRecord.accept_eq (m : Mark) (r : RefRecord) :
    r.accept m = { r.marked m with
      state := if r.state = .qualifying ∧ min 64 (r.good + 1) = r.config.qualify then .ready else r.state } := rfl

/-! ### A pulse edge (R22 to R25) -/

theorem RefState.watched_iff (st : RefState) : st.watched = true ↔ st = .qualifying ∨ st = .ready ∨ st = .active := by
  cases st <;> simp [RefState.watched]

theorem isMessagePort_of_lt {p : Fin 4} (h : p.val < 2) : isMessagePort p = false := decide_eq_false (Nat.not_le.2 h)

theorem isMessagePort_of_le {p : Fin 4} (h : 2 ≤ p.val) : isMessagePort p = true := decide_eq_true h

/-- The record of a port whose silence timer restarts (R32). -/
def RefRecord.heard (raw : Nat) (r : RefRecord) : RefRecord := { r with silence := some raw }

theorem RefRecord.pendPulse_eq (x : PendingPulse) (r : RefRecord) :
    r.pendPulse x = { r with
      pulse := some x
      counts := { r.counts with
        unpairedPulses := if r.pulse.isSome then min 65535 (r.counts.unpairedPulses + 1) else r.counts.unpairedPulses } } := by
  unfold RefRecord.pendPulse
  split <;> rfl

theorem pulseArrives_ignored {p : Fin 4} {edge : Edge} {s : State}
    (h : s.refs[p].state = .disabled ∨ s.refs[p].state = .failed ∨ edge ≠ s.refs[p].config.edge) (lines : BitVec 48) (error : Bool) :
    pulseArrives p edge lines error s = s := by
  refine if_neg fun ⟨hw, he⟩ => ?_
  obtain h | h | h := h
  · rw [h] at hw; cases hw
  · rw [h] at hw; cases hw
  · exact h he

/-- An edge at RP0 or RP1 restarts the silence timer and is decoded (R23, R24). -/
theorem pulseArrives_decoded {p : Fin 4} {s : State} (hp : p.val < 2) (hw : s.refs[p].state.watched = true) (lines : BitVec 48)
    (error : Bool) : pulseArrives p s.refs[p].config.edge lines error s =
      (s.putRef p (s.refs[p].heard s.ts.raw)).decodeEdge p lines error := by
  refine (if_pos ⟨hw, rfl⟩).trans ?_
  rw [isMessagePort_of_lt hp]
  rfl

/-- An edge at RP2 or RP3 restarts the silence timer and pends (R23, R26). -/
theorem pulseArrives_pends {p : Fin 4} {s : State} (hp : 2 ≤ p.val) (hw : s.refs[p].state.watched = true) (lines : BitVec 48)
    (error : Bool) : pulseArrives p s.refs[p].config.edge lines error s =
      s.putRef p ((s.refs[p].heard s.ts.raw).pendPulse { tMark := s.now, rawMark := s.ts.raw }) := by
  refine (if_pos ⟨hw, rfl⟩).trans ?_
  rw [isMessagePort_of_le hp]
  exact State.onRef_putRef s p (s.refs[p].heard s.ts.raw) _

/-- Settles O10. -/
theorem pulseEdgesAreIgnoredOffDutyAndPendAtMessagePorts : Obligations.PulseEdgesAreIgnoredOffDutyAndPendAtMessagePorts := by
  refine ⟨fun dt p e lines err s hp h => atEvent_next hp (pulseArrives_ignored (s := s.elapse dt) h lines err),
    fun dt p lines err s hp h2 hw => atEvent_next hp ?_⟩
  refine (pulseArrives_pends (s := s.elapse dt) h2 ((RefState.watched_iff _).2 hw) lines err).trans ?_
  refine congrArg (State.putRef p · (s.elapse dt)) ?_
  exact RefRecord.pendPulse_eq _ _

/-- An accepted edge at RP0 or RP1 updates the record of its port and is passed on by the state that the record then has (R29, R45). -/
theorem exec_pulseEdge_accepted {dt : Nat} {p : Fin 4} {lines : BitVec 48} {s : State} (hp : s.power = .running) (h2 : p.val < 2)
    (hw : s.refs[p].state.watched = true) {sec : Int}
    (hsec : fullCount s.refs[p].config s.ts.state (s.elapse dt).ts.ns (codeValue s.refs[p].config lines)
      + s.refs[p].config.secondOffset = sec) (h0 : 0 ≤ sec) (h1 : sec ≤ 9223372035) {m : Mark}
    (hm : markOf sec (s.elapse dt).ts.ns (s.elapse dt).ts.raw s.refs[p].config.uFloor = m)
    (hphi : ∀ phi raw, s.refs[p].lastPhi = some phi → s.refs[p].lastRaw = some raw →
      (((m.tRef : Int) - m.rawMark) - (phi + (((m.rawMark : Int) - raw) * s.ts.rate).tdiv (10 ^ 12))).natAbs
        ≤ s.refs[p].config.maxChange) :
    exec (.pulseEdge dt p s.refs[p].config.edge lines false) s = .next (State.passOn p m
      ((m.tRef : Int) + s.refs[p].config.delay - m.tMark)
      ((s.elapse dt).putRef p ((s.refs[p].heard (s.elapse dt).ts.raw).accept m))) := by
  subst hsec hm
  refine atEvent_next hp ?_
  refine (pulseArrives_decoded (s := s.elapse dt) h2 hw lines false).trans ?_
  refine (State.decodeEdge_in (s.elapse dt) p (s.refs[p].heard (s.elapse dt).ts.raw) lines h0 h1).trans ?_
  exact State.filterMark_plausible (s.elapse dt) p _ ((RefRecord.plausible_iff _ _ _ _).2 hphi)

/-! ### Where an accepted mark goes (R45) -/

section
variable {s : State} {p : Fin 4}

theorem State.passOn_of_active (h : s.refs[p].state = .active) (m : Mark) (θ : Int) : s.passOn p m θ = s.applyMark p m θ := by
  simp only [State.passOn, h]

theorem State.passOn_of_qualifying (h : s.refs[p].state = .qualifying) (m : Mark) (θ : Int) : s.passOn p m θ = s := by
  simp only [State.passOn, h]

/-- In ACQUIRING the mark of a READY reference serves its record only (R38, R40). -/
theorem State.passOn_of_ready_acquiring (h : s.refs[p].state = .ready) (ha : s.ts.state = .acquiring) (m : Mark) (θ : Int) :
    s.passOn p m θ = s := by
  simp only [State.passOn, h, State.inService, ha]
  cases s.activePort with
  | none => exact if_neg (by simp)
  | some a => exact if_neg (by simp [TimescaleState.inService])

end

/-- Settles O11. -/
theorem qualifyingMarkServesItsRecord : Obligations.QualifyingMarkServesItsRecord := by
  intro dt p lines s hp h2 hq u c sec m h0 h1 hphi
  have hrun := exec_pulseEdge_accepted hp h2 ((RefState.watched_iff _).2 (.inl hq)) (dt := dt) (lines := lines) rfl h0 h1 rfl hphi
  have hrecord : (s.refs[p].heard u.ts.raw).accept m = { s.refs[p].marked m with
      silence := some u.ts.raw
      state := if s.refs[p].state = .qualifying ∧ min 64 (s.refs[p].good + 1) = c.qualify then .ready else s.refs[p].state } := rfl
  rw [hrecord] at hrun
  refine ⟨fun hn => ?_, fun hn ha => ?_⟩
  · rw [if_neg fun h => hn h.2] at hrun
    exact hrun.trans (congrArg _ (State.passOn_of_qualifying (by rw [State.putRef_same]; exact hq) _ _))
  · rw [if_pos ⟨hq, hn⟩] at hrun
    exact hrun.trans (congrArg _ (State.passOn_of_ready_acquiring (by rw [State.putRef_same]) (by exact ha) _ _))

/-! ### The loss of the ACTIVE reference in LOCKED (R15, R39) -/

theorem Alert.index_injective {a b : Alert} (h : a.index = b.index) : a = b := by
  cases a <;> cases b <;> cases h <;> rfl

theorem hasAlert_addAlert_other {a b : Alert} (h : a ≠ b) (set : AlertSet) : hasAlert a (addAlert b set) = hasAlert a set := by
  have hne : a.index ≠ b.index := fun e => h (Alert.index_injective e)
  have hbit : b.flag.getLsbD a.index = false := by
    simp only [Alert.flag, BitVec.getLsbD_shiftLeft, BitVec.getLsbD_one, Bool.and_eq_false_imp, Bool.and_eq_true,
      Bool.not_eq_eq_eq_not, Bool.not_true, decide_eq_true_eq, decide_eq_false_iff_not]
    omega
  simp [hasAlert, addAlert, hbit]

end Sys2Proof.Machine
end

section
/-! PROOFS. How an accepted mark is applied: the update of r and S, the step, the lock, and the mark that makes its reference ACTIVE
(chapter 1, 2.7). -/

namespace Sys2Proof.Machine

/-! ### The frequency update and the phase replacement (R9, R10) -/

/-- The rate and the rate-held standing after a mark of port `p` with this θ: updated where the anchor is the port's and at least 0.1 s
old, and as they were otherwise (R4, R9). -/
def Timescale.Updates (t : Timescale) (p : Fin 4) (rawMark : Nat) (θ : Int) (r : Int) (held : Bool) : Prop :=
  let due := fun raw => t.anchor = some (p, raw) ∧ 100000000 ≤ rawMark - raw
  let full := fun raw : Nat => t.rate + (θ * 10 ^ 12).tdiv (((rawMark - raw : Nat) : Int) * 2 ^ t.settings.gainShift)
  (∃ raw, due raw ∧ r = max (-(t.settings.rateLimit : Int)) (min t.settings.rateLimit (full raw)) ∧ held = decide (r ≠ full raw)) ∨
    (∀ raw, ¬ due raw) ∧ r = t.rate ∧ held = t.rateHeld

theorem updateInterval_eq_some_iff {p : Fin 4} {rawMark d : Nat} {anchor : Option (Fin 4 × Nat)} :
    updateInterval p rawMark anchor = some d ↔ ∃ raw, anchor = some (p, raw) ∧ 100000000 ≤ rawMark - raw ∧ d = rawMark - raw := by
  unfold updateInterval
  split
  · next q raw =>
    constructor
    · intro h
      split at h
      · next hq =>
        cases h
        exact ⟨raw, by rw [hq.1], hq.2, rfl⟩
      · cases h
    · rintro ⟨raw', he, hd, rfl⟩
      cases he
      exact if_pos ⟨rfl, hd⟩
  · exact ⟨fun h => (nomatch h), fun ⟨_, h, _⟩ => (nomatch h)⟩

theorem Timescale.updateRate_eq {t : Timescale} {p : Fin 4} {rawMark : Nat} {θ r : Int} {held : Bool}
    (h : t.Updates p rawMark θ r held) : t.updateRate θ p rawMark = { t with rate := r, rateHeld := held } := by
  unfold Timescale.updateRate
  obtain ⟨raw, ⟨hanchor, hold⟩, rfl, rfl⟩ | ⟨hnot, rfl, rfl⟩ := h
  · rw [updateInterval_eq_some_iff.2 ⟨raw, hanchor, hold, rfl⟩]
    rfl
  · cases hd : updateInterval p rawMark t.anchor with
    | none => rfl
    | some d =>
      obtain ⟨raw, hanchor, hold, -⟩ := updateInterval_eq_some_iff.1 hd
      exact absurd ⟨hanchor, hold⟩ (hnot raw)

/-- Frequency update, then phase replacement (R10). -/
theorem Timescale.slewTo_eq {t : Timescale} {p : Fin 4} {m : Mark} {θ r : Int} {held : Bool}
    (h : t.Updates p m.rawMark θ r held) :
    t.slewTo θ p m = { t with
      rate := r, rateHeld := held, slew := θ * unit, anchor := some (p, m.rawMark), lastMark := some (m.uRef, m.tMark) } := by
  rw [Timescale.slewTo, Timescale.updateRate_eq h]
  rfl

/-- With the anchor dropped there is no frequency update (R16, R17). -/
theorem Timescale.slewTo_of_no_anchor {t : Timescale} (h : t.anchor = none) (θ : Int) (p : Fin 4) (m : Mark) :
    t.slewTo θ p m = { t with slew := θ * unit, anchor := some (p, m.rawMark), lastMark := some (m.uRef, m.tMark) } :=
  Timescale.slewTo_eq (r := t.rate) (held := t.rateHeld) (.inr ⟨fun _ hraw => (nomatch h.symm.trans hraw.1), rfl, rfl⟩)

section
variable {s : State} {p : Fin 4} {m : Mark} {θ : Int}

theorem State.applyMark_of_locked (h : s.ts.state = .locked) : s.applyMark p m θ = s.applyLocked p m θ := by
  simp only [State.applyMark, h]

theorem State.applyMark_of_acquiring (h : s.ts.state = .acquiring) : s.applyMark p m θ = s.applyAcquiring p m θ := by
  simp only [State.applyMark, h]

/-- A mark in LOCKED slews, updates r and saves it (R9 to R11, R18). -/
theorem State.applyLocked_eq {r : Int} {held : Bool} (h : s.ts.Updates p m.rawMark θ r held) :
    s.applyLocked p m θ = { s with
      ts := { s.ts with
        rate := r, rateHeld := held, slew := θ * unit, anchor := some (p, m.rawMark), lastMark := some (m.uRef, m.tMark) }
      retained := { s.retained with savedRate := r, valid := true } } := by
  rw [State.applyLocked, Timescale.slewTo_eq h]
  rfl

end

/-! ### The mark that makes its reference ACTIVE (R13, R16, R37, R38, R42) -/

/-- The reference at `p` wins the selection at its own mark (R38). -/
def State.winsAtMark (p : Fin 4) (s : State) : Bool :=
  s.eligibleAtMark p && !((List.finRange 4).any fun q => q != p && s.eligible q && s.better q p)

theorem State.thetaOk_iff (θ : Option (Int × Nat)) (s : State) :
    s.thetaOk θ = true ↔ (s.inService = true → ∃ x, θ = some x ∧ x.1.natAbs ≤ s.ops.limits.acceptLimit) := by
  unfold State.thetaOk
  cases s.inService <;> cases θ <;> simp

theorem State.eligible_iff (p : Fin 4) (s : State) : s.eligible p = true ↔
    s.refs[p].state = .ready ∧ s.refs[p].disputed = false ∧ s.refs[p].fresh s.ts.raw = true ∧
      (s.inService = true → ∃ x, s.refs[p].lastTheta = some x ∧ x.1.natAbs ≤ s.ops.limits.acceptLimit) := by
  rw [← State.thetaOk_iff]
  simp [State.eligible, and_assoc]

theorem State.eligibleAtMark_iff (p : Fin 4) (s : State) : s.eligibleAtMark p = true ↔
    s.refs[p].state = .ready ∧ s.refs[p].disputed = false ∧
      (s.inService = true → ∃ x, s.refs[p].lastTheta = some x ∧ x.1.natAbs ≤ s.ops.limits.acceptLimit) := by
  rw [← State.thetaOk_iff]
  simp [State.eligibleAtMark, and_assoc]

theorem State.better_total (s : State) {p q : Fin 4} (h : q ≠ p) : s.better q p = false ↔ s.better p q = true := by
  rw [← Bool.not_eq_true, State.better_iff, State.better_iff]
  omega

theorem State.winsAtMark_iff (p : Fin 4) (s : State) : s.winsAtMark p = true ↔
    s.eligibleAtMark p = true ∧ ∀ q, q ≠ p → s.eligible q = true → s.better p q = true := by
  simp only [State.winsAtMark, Bool.and_eq_true, Bool.not_eq_eq_eq_not, Bool.not_true, List.any_eq_false, List.mem_finRange,
    true_implies, bne_iff_ne, ne_eq, not_and, Bool.not_eq_true]
  refine and_congr_right fun _ => forall_congr' fun q => ?_
  constructor
  · exact fun h hq he => (s.better_total hq).1 (h ⟨hq, he⟩)
  · exact fun h ⟨hq, he⟩ => (s.better_total hq).2 (h hq he)

section
variable {s : State} {p : Fin 4}

theorem State.passOn_of_ready_idle (h : s.refs[p].state = .ready) (hnone : ∀ q : Fin 4, s.refs[q].state ≠ .active)
    (hs : s.ts.state = .unset ∨ s.ts.state = .holdover) (m : Mark) (θ : Int) : s.passOn p m θ =
      if s.winsAtMark p = true then (s.becomeActive p).applyFirstMark p m θ else s := by
  simp only [State.passOn, h, (s.activePort_eq_none_iff).2 hnone]
  exact if_pos hs

theorem State.applyFirstMark_of_unset (h : s.ts.state = .unset) (m : Mark) (θ : Int) :
    s.applyFirstMark p m θ = (s.changeState .acquiring).applyMark p m θ := by
  simp only [State.applyFirstMark, h]

/-- The return from HOLDOVER: LOCKED with S = θ, no step and no frequency update, and r saved (R16). -/
theorem State.applyFirstMark_holdover_eq (h : s.ts.state = .holdover) (m : Mark) (θ : Int) :
    s.applyFirstMark p m θ = State.evaluate s.ts.ns { s with
      ts := { s.ts with
        state := .locked, lockCount := 0, slew := θ * unit, anchor := some (p, m.rawMark), lastMark := some (m.uRef, m.tMark) }
      retained := { s.retained with savedRate := s.ts.rate, valid := true } } := by
  rw [State.applyFirstMark_of_holdover h, State.applyLocked, Timescale.slewTo_of_no_anchor rfl]
  rfl

end

/-- Settles O12. -/
theorem lockedMarkSlewsAndSavesTheRate : Obligations.LockedMarkSlewsAndSavesTheRate := by
  refine ⟨?locked, ?accepted, ?first⟩
  case locked =>
    intro dt p lines r held s hp h2 ha hl u c sec m θ due full hr h0 h1 hphi
    have hsec : fullCount c s.ts.state u.ts.ns (codeValue c lines) + c.secondOffset = sec := by rw [hl]
    refine (exec_pulseEdge_accepted hp h2 ((RefState.watched_iff _).2 (.inr (.inr ha))) hsec h0 h1 rfl hphi).trans ?_
    have hrecord : (s.refs[p].heard u.ts.raw).accept m = { s.refs[p].marked m with silence := some u.ts.raw } := by
      rw [RefRecord.accept_eq, if_neg fun h => by rw [RefRecord.heard, ha] at h; cases h.1]
      rfl
    rw [hrecord, State.passOn_of_active (by rw [State.putRef_same]; exact ha), State.applyMark_of_locked (by exact hl),
      State.applyLocked_eq (r := r) (held := held) (by exact hr)]
    rfl
  case accepted =>
    intro dt p lines s hp h2 hw u c sec m θ h0 h1 hphi
    exact exec_pulseEdge_accepted hp h2 ((RefState.watched_iff _).2 hw) rfl h0 h1 rfl hphi
  case first =>
    intro p m θ s hready hnone hidle near eligible wins active
    have hservice : s.inService = true ↔ s.ts.state = .holdover := by
      obtain h | h := hidle <;> simp [State.inService, h, TimescaleState.inService]
    have hwins : s.winsAtMark p = true ↔ wins := by
      simp only [State.winsAtMark_iff, State.eligibleAtMark_iff, State.eligible_iff, State.better_iff, hservice]
      exact ⟨fun ⟨⟨_, hd, hnear⟩, hbest⟩ => ⟨hd, hnear, hbest⟩, fun ⟨hd, hnear, hbest⟩ => ⟨⟨hready, hd, hnear⟩, hbest⟩⟩
    rw [State.passOn_of_ready_idle hready hnone hidle]
    refine ⟨fun h => if_neg (mt hwins.1 h), fun h hu => ?_, fun h hh => ?_⟩
    · rw [if_pos (hwins.2 h), State.applyFirstMark_of_unset (by exact hu)]
      rfl
    · rw [if_pos (hwins.2 h), State.applyFirstMark_holdover_eq (by exact hh)]
      rfl

/-! ### The trace sample (R57, R58) -/

theorem State.evaluate_eq (t : Nat) (s : State) : s.evaluate t = { s with
    trace := { s.trace with dg := evalGrade s.trace.settings s.inService s.trace.dg (s.bound t) }
    ops := if evalGrade s.trace.settings s.inService s.trace.dg (s.bound t) = s.trace.dg then s.ops
           else { s.ops with alerts := addAlert .gradeChange s.ops.alerts } } := s.evaluateWith_eq _

/-- What a trace sample writes: DG and its alert, the interval, and the next sample second. -/
theorem State.sampleAt_eq (t : Nat) (s : State) : s.sampleAt t = { s with
    trace := { s.trace with
      dg := evalGrade s.trace.settings s.inService s.trace.dg (s.bound t), nextSample := secondAfter s.now
      interval := s.trace.interval.sample (s.bound t) (evalGrade s.trace.settings s.inService s.trace.dg (s.bound t)) }
    ops := { s.ops with
      alerts := if evalGrade s.trace.settings s.inService s.trace.dg (s.bound t) = s.trace.dg then s.ops.alerts
                else addAlert .gradeChange s.ops.alerts } } := by
  rw [State.sampleAt, State.evaluate_eq]
  split <;> rfl

/-- Settles O27. -/
theorem traceSampleUpdatesTheInterval : Obligations.TraceSampleUpdatesTheInterval := by
  intro dt s hp u hdue b g
  have hsample : exec (.traceSample dt) s = .next (u.sampleAt s.trace.nextSample) := atEvent_next hp (if_pos hdue)
  refine ⟨_, hsample, ?_⟩
  rw [State.sampleAt_eq]
  exact ⟨rfl, rfl⟩

/-! ### The step (R8, R57, R107) -/

section
variable {s : State} {θ : Int}

theorem State.sampleAtStep_backward (h : θ < 0) :
    s.sampleAtStep θ = { s with trace := { s.trace with nextSample := secondAfter s.now } } := if_pos h

theorem State.sampleAtStep_short (h : 0 < θ) (hn : s.now < s.trace.nextSample) : s.sampleAtStep θ = s := by
  rw [State.sampleAtStep, if_neg (by omega), if_neg (by omega)]

theorem State.sampleAtStep_reaches (h : 0 < θ) (hn : s.trace.nextSample ≤ s.now) : s.sampleAtStep θ = s.sampleAt s.now := by
  rw [State.sampleAtStep, if_neg (by omega), if_pos hn]

/-- The sample at a step touches the traceability unit and the alerts alone. -/
theorem State.sampleAtStep_frame (s : State) (θ : Int) :
    s.sampleAtStep θ = { s with trace := (s.sampleAtStep θ).trace, ops := (s.sampleAtStep θ).ops } := by
  unfold State.sampleAtStep
  split
  · rfl
  · split
    · rw [State.sampleAt_eq]
    · rfl

/-- A sample out of service records UNTRACED and the saturated bound (R48, R53, R58). -/
theorem State.sampleAt_out_of_service (h : s.inService = false) (t : Nat) : s.sampleAt t = { s with
    trace := { s.trace with
      dg := .untraced, nextSample := secondAfter s.now
      interval := { s.trace.interval with
        worstU := max s.trace.interval.worstU cap32, seconds := s.trace.interval.seconds.bump .untraced } }
    ops := { s.ops with
      alerts := if s.trace.dg = .untraced then s.ops.alerts else addAlert .gradeChange s.ops.alerts } } := by
  rw [State.sampleAt_eq, s.bound_out_of_service t h, h, evalGrade_out_of_service]
  by_cases hdg : s.trace.dg = .untraced
  · rw [if_pos hdg, if_pos hdg.symm]
    rfl
  · rw [if_neg hdg, if_neg (Ne.symm hdg)]
    rfl

end

theorem Lane.abandonProbe_departed {n : Lane} {tag : Tag} {left : Nat} (h : n.probe = some { tag, departed := some left }) :
    n.abandonProbe = { n with probe := none, lastExpired := some tag, echoDue := none } := by
  simp only [Lane.abandonProbe, h]
  rfl

theorem Lane.abandonProbe_waiting {n : Lane} (h : ∀ p, n.probe = some p → p.departed = none) : n.abandonProbe = n := by
  unfold Lane.abandonProbe
  split
  · next hp => cases h _ hp
  · rfl
  · rfl

/-- The state of a step before its trace sample. -/
def State.stepped (θ : Int) (tMark uRef : Nat) (s : State) : State :=
  State.onLanes Lane.abandonProbe { s with ts := s.ts.stepBy θ tMark uRef }

theorem State.stepBy_eq (s : State) (θ : Int) (tMark uRef : Nat) :
    s.stepBy θ tMark uRef = (s.stepped θ tMark uRef).sampleAtStep θ := rfl

theorem State.stepped_lane (s : State) (θ : Int) (tMark uRef : Nat) (l : Fin 16) :
    (s.stepped θ tMark uRef).lanes[l] = s.lanes[l].abandonProbe := by
  simp [State.stepped, State.onLanes]

/-! ### The mark in ACQUIRING (R8 to R12) -/

section
variable {s : State} {p : Fin 4} {m : Mark} {θ : Int}

theorem State.applyAcquiring_steps (h : s.ts.settings.stepThreshold < θ.natAbs) :
    s.applyAcquiring p m θ = s.stepBy θ m.tMark m.uRef := if_pos h

/-- A mark within the step threshold slews, and locks where the lock count reaches L (R9, R10, R12, R18). -/
theorem State.applyAcquiring_slews (h : θ.natAbs ≤ s.ts.settings.stepThreshold) {r : Int} {held : Bool}
    (hr : s.ts.Updates p m.rawMark θ r held) {t : Timescale}
    (ht : { s.ts with
      rate := r, rateHeld := held, slew := θ * unit, anchor := some (p, m.rawMark), lastMark := some (m.uRef, m.tMark)
      lockCount := countLock s.ts.settings.lockLimit θ s.ts.lockCount } = t) :
    s.applyAcquiring p m θ =
      if s.ts.settings.lockCount ≤ t.lockCount then State.lock { s with ts := t } else { s with ts := t } := by
  rw [State.applyAcquiring, if_neg (Nat.not_lt.2 h), Timescale.slewTo_eq hr, ← ht]

theorem State.lock_eq (s : State) : s.lock = State.evaluate s.ts.ns { s with
    ts := { s.ts with state := .locked, lockCount := 0 }
    retained := { s.retained with savedRate := s.ts.rate, valid := true }
    ops := { s.ops with alerts := addAlert .serviceEntered s.ops.alerts } } := rfl

end

/-- Settles O6. -/
theorem acquiringMarksStepOrLock : Obligations.AcquiringMarksStepOrLock := by
  refine ⟨fun p m θ s h => State.passOn_of_active h m θ, ?steps, ?slews⟩
  case steps =>
    intro p m θ s ha hfar
    refine ⟨_, (State.applyMark_of_acquiring ha).trans (State.applyAcquiring_steps hfar), ?_⟩
    rw [State.stepBy_eq]
    generalize hv : s.stepped θ m.tMark m.uRef = v
    have hts : v.ts = s.ts.stepBy θ m.tMark m.uRef := by rw [← hv]; rfl
    have htrace : v.trace = s.trace := by rw [← hv]; rfl
    have hops : v.ops = s.ops := by rw [← hv]; rfl
    have hlane : ∀ l : Fin 16, v.lanes[l] = s.lanes[l].abandonProbe := fun l => by rw [← hv]; exact s.stepped_lane θ _ _ l
    have hframe : v = { s with ts := v.ts, trace := v.trace, lanes := v.lanes, ops := v.ops } := by rw [← hv]; rfl
    have hout : v.inService = false := by rw [State.inService, hts]; exact congrArg TimescaleState.inService ha
    have hstep := v.sampleAtStep_frame θ
    refine ⟨?_, fun l tag left hprobe => ?_, fun l hwait => ?_, ⟨fun hb => ?_, fun hf hn => ?_, fun hf hn => ?_⟩, ?_⟩
    · rw [hstep, hts]
      rfl
    · rw [hstep]
      exact (hlane l).trans (Lane.abandonProbe_departed hprobe)
    · rw [hstep]
      exact (hlane l).trans (Lane.abandonProbe_waiting hwait)
    · rw [State.sampleAtStep_backward hb, htrace, hops]
      exact ⟨rfl, rfl⟩
    · rw [State.sampleAtStep_short hf (by rw [hstep] at hn; rw [htrace]; exact hn), htrace, hops]
      exact ⟨rfl, rfl⟩
    · rw [State.sampleAtStep_reaches hf (by rw [hstep] at hn; rw [htrace]; exact hn), State.sampleAt_out_of_service hout, htrace,
        hops]
      exact ⟨rfl, rfl⟩
    · rw [hstep]
      exact congrArg (fun w : State => { w with trace := (v.sampleAtStep θ).trace, ops := (v.sampleAtStep θ).ops }) hframe
  case slews =>
    intro p m θ r held s ha hnear due full hr n slewed
    have hrun := (State.applyMark_of_acquiring (p := p) (m := m) (θ := θ) ha).trans (State.applyAcquiring_slews hnear hr rfl)
    refine ⟨fun hn => hrun.trans (if_neg (Nat.not_le.2 hn)), fun hn => (hrun.trans (if_pos hn)).trans ?_⟩
    rw [State.lock_eq]

end Sys2Proof.Machine
end

section
/-! PROOFS. Rejections, silences and breaks, and the loss of the ACTIVE reference that they may be (2.3 to 2.7, 1.5). -/

namespace Sys2Proof.Machine

/-! ### The holdover entry (R15, R39) -/

/-- What the loss of the ACTIVE reference in LOCKED leaves of the state in which it happens. -/
structure EntersHoldover (s t : State) : Prop where
  ts : t.ts = { s.ts with state := .holdover, lockCount := 0, anchor := none }
  refs : ∀ q : Fin 4, t.refs[q] = { s.refs[q] with disputed := false }
  interval : t.trace.interval = { s.trace.interval with holdovers := min 65535 (s.trace.interval.holdovers + 1) }
  alerts : ∀ a, hasAlert a s.ops.alerts = true → hasAlert a t.ops.alerts = true
  entered : hasAlert .holdoverEntered t.ops.alerts = true
  slots : t.slots = s.slots
  lanes : t.lanes = s.lanes
  expiry : t.expiry = s.expiry
  groupMap : t.groupMap = s.groupMap
  retained : t.retained = s.retained

/-- An evaluation raises GRADE_CHANGE alone (R51). -/
theorem State.evaluate_alerts_mono (t : Nat) {a : Alert} {s : State} (h : hasAlert a s.ops.alerts = true) :
    hasAlert a (s.evaluate t).ops.alerts = true := (Calm.evaluate s t).undisturbed.alerts a h

theorem State.evaluate_alerts_other (t : Nat) {a : Alert} (ha : a ≠ .gradeChange) (s : State) :
    hasAlert a (s.evaluate t).ops.alerts = hasAlert a s.ops.alerts := by
  rw [State.evaluate_eq]
  split
  · rfl
  · exact hasAlert_addAlert_other ha _

theorem State.loseActive_enters_holdover {s : State} (h : s.ts.state = .locked) : EntersHoldover s s.loseActive := by
  rw [State.loseActive_of_locked h]
  refine ⟨State.changeState_ts _ _, fun q => ?_, State.evaluate_interval _ _, fun a ha => ?_, ?_, State.changeState_slots _ _,
    State.evaluate_lanes _ _, State.evaluate_expiry _ _, State.evaluate_groupMap _ _, State.evaluate_retained _ _⟩
  · rw [State.changeState_refs]
    exact s.refs_clearDisputes q
  · exact State.evaluate_alerts_mono _ (hasAlert_addAlert ha)
  · exact State.evaluate_alerts_mono _ (hasAlert_addAlert_self _ _)

/-- The failure of the ACTIVE reference in LOCKED: REFERENCE_FAILED is raised, and its loss is a holdover entry (R30, R32, R39). -/
theorem State.failed_loseActive {s : State} {p : Fin 4} (gone : RefRecord) (h : s.ts.state = .locked) {t : State}
    (ht : ((s.putRef p gone).raise .referenceFailed).loseActive = t) :
    t.ts = { s.ts with state := .holdover, lockCount := 0, anchor := none } ∧
    t.refs[p] = { gone with disputed := false } ∧
    (∀ q, q ≠ p → t.refs[q] = { s.refs[q] with disputed := false }) ∧
    t.trace.interval = { s.trace.interval with holdovers := min 65535 (s.trace.interval.holdovers + 1) } ∧
    hasAlert .referenceFailed t.ops.alerts = true ∧ hasAlert .holdoverEntered t.ops.alerts = true ∧
    t.slots = s.slots ∧ t.lanes = s.lanes ∧ t.expiry = s.expiry ∧ t.groupMap = s.groupMap ∧ t.retained = s.retained := by
  have hloss := ht ▸ State.loseActive_enters_holdover (s := (s.putRef p gone).raise .referenceFailed) h
  refine ⟨hloss.ts, ?_, fun q hq => ?_, hloss.interval, hloss.alerts _ (hasAlert_addAlert_self _ _), hloss.entered, hloss.slots,
    hloss.lanes, hloss.expiry, hloss.groupMap, hloss.retained⟩
  · rw [hloss.refs, State.raise_refs, State.putRef_same]
  · rw [hloss.refs, State.raise_refs, State.putRef_other s hq]

/-! ### Silence (R32) -/

theorem RefRecord.silent_of_start {r : RefRecord} {start raw : Nat} (h : r.silence = some start)
    (hd : r.config.timeoutMs * 1000000 ≤ raw - start) : r.silent raw = true := by
  rw [RefRecord.silent, h, Option.any_some, decide_eq_true_eq]
  exact hd

theorem State.failRef_of_idle {s : State} {p : Fin 4} (h : s.refs[p].state ≠ .active) (c : FailureCause) :
    s.failRef p c = (s.putRef p (s.refs[p].fail c)).raise .referenceFailed := if_neg h

theorem State.failRef_of_active {s : State} {p : Fin 4} (h : s.refs[p].state = .active) (c : FailureCause) :
    s.failRef p c = ((s.putRef p (s.refs[p].fail c)).raise .referenceFailed).loseActive := if_pos h

/-- Settles O16. -/
theorem silenceFailsTheReference : Obligations.SilenceFailsTheReference := by
  intro dt p start s hp hstart u gone failed hdue
  have hsilent : u.refs[p].silent u.ts.raw = true := RefRecord.silent_of_start hstart hdue
  have hrun : u.refs[p].state.watched = true → exec (.silenceExpiry dt p) s = .next (u.failRef p .silent) := fun hw =>
    atEvent_next hp (if_pos ⟨hw, hsilent⟩)
  refine ⟨fun hst => ?_, fun hst => ?_⟩
  · refine (hrun ((RefState.watched_iff _).2 (hst.imp_right .inl))).trans (congrArg _ (State.failRef_of_idle (s := u) ?_ _))
    exact fun ha => by obtain h | h := hst <;> cases h.symm.trans ha
  · have hfail := State.failRef_of_active (s := u) hst .silent
    exact ⟨_, hrun ((RefState.watched_iff _).2 (.inr (.inr hst))), hfail, fun hl => State.failed_loseActive (s := u) gone hl hfail.symm⟩

/-! ### Rejections at RP0 and RP1 (R24, R25, R28, R30) -/

/-- What the rejection of a mark with the record `r` does, by K and by the reference's state (R30). -/
theorem State.rejectMark_cases (u : State) (p : Fin 4) (r : RefRecord) (mark : Option Mark) {run : State}
    (hrun : (u.putRef p r).rejectMark p mark = run) :
    (r.rejects + 1 < r.config.rejectLimit → run = u.putRef p r.reject) ∧
    (r.state = .qualifying ∨ r.state = .ready → r.config.rejectLimit ≤ r.rejects + 1 →
      run = u.putRef p (r.reject.reanchor mark)) ∧
    (r.state = .active → r.config.rejectLimit ≤ r.rejects + 1 →
      run = ((u.putRef p (r.reject.fail (mark.elim .codeError fun _ => .implausible))).raise .referenceFailed).loseActive) := by
  subst hrun
  refine ⟨u.rejectMark_early p r mark, fun hst hk => u.rejectMark_reanchors p r mark hk fun ha => ?_,
    fun ha hk => u.rejectMark_fails p r mark hk ha⟩
  obtain h | h := hst <;> cases h.symm.trans ha

/-- Settles O13. -/
theorem codeErrorIsCountedAndRejected : Obligations.CodeErrorIsCountedAndRejected := by
  intro dt p lines error cause s hp h2 u c sec m phi rejected counts run r anchored hcase
  have hedge : s.refs[p].state.watched = true →
      run = .next ((u.putRef p (s.refs[p].heard u.ts.raw)).decodeEdge p lines error) := fun hw =>
    atEvent_next hp (pulseArrives_decoded (s := u) h2 hw lines error)
  have hrejection : ∃ (r₀ : RefRecord) (mark : Option Mark),
      (u.putRef p (s.refs[p].heard u.ts.raw)).decodeEdge p lines error = (u.putRef p r₀).rejectMark p mark ∧
      r₀.state = s.refs[p].state ∧ r₀.rejects = s.refs[p].rejects ∧ r₀.config = c ∧ r₀.reject = r ∧
      r.reanchor mark = anchored ∧ (mark.elim .codeError fun _ => .implausible) = cause := by
    obtain h | h := hcase
    · obtain ⟨herr, hcause, hr, hanchored⟩ := h
      have hr' : (s.refs[p].heard u.ts.raw).countCodeError.reject = r := hr.symm
      refine ⟨(s.refs[p].heard u.ts.raw).countCodeError, none, ?_, rfl, rfl, rfl, hr', hanchored.symm, hcause.symm⟩
      rw [State.decodeEdge_error u p (s.refs[p].heard u.ts.raw) lines (by exact herr), State.codeError_putRef]
    · obtain ⟨herr, h0, h1, hfar, hcause, hr, hanchored⟩ := h
      have hr' : (s.refs[p].heard u.ts.raw).countRejected.reject = r := hr.symm
      refine ⟨(s.refs[p].heard u.ts.raw).countRejected, some m, ?_, rfl, rfl, rfl, hr', hanchored.symm, hcause.symm⟩
      rw [herr, State.decodeEdge_in u p (s.refs[p].heard u.ts.raw) lines h0 h1]
      exact State.filterMark_implausible u p _ ((RefRecord.not_plausible_iff _ _ _ _).2 hfar)
  obtain ⟨r₀, mark, hrej, hst, hn, hc, hr, hanchored, hcause⟩ := hrejection
  obtain ⟨hearly, hreanchors, hfails⟩ := u.rejectMark_cases p r₀ mark rfl
  rw [hrej] at hedge
  rw [hst, hn, hc, hr, hanchored] at hreanchors
  rw [hst, hn, hc, hr, hcause] at hfails
  rw [hn, hc, hr] at hearly
  refine ⟨fun hst hk => ?_, fun hst hk => ?_, ?_⟩
  · rw [hedge ((RefState.watched_iff _).2 hst), hearly hk]
    rfl
  · rw [hedge ((RefState.watched_iff _).2 (hst.imp_right .inl)), hreanchors hst hk]
    rfl
  · intro ha hk gone
    refine ⟨_, hedge ((RefState.watched_iff _).2 (.inr (.inr ha))), hfails ha hk, fun hl => ?_⟩
    exact State.failed_loseActive gone (by exact hl) (hfails ha hk).symm

/-! ### Breaks and announce windows (R26, R170) -/

/-- A message whose check fails, or that is cut short, is a code error with the pending pulse spent (R27, R170). -/
theorem State.badAnnouncement_putRef (u : State) (p : Fin 4) (r : RefRecord) :
    (u.putRef p r).badAnnouncement p = (u.putRef p (RefRecord.countCodeError { r with pulse := none })).rejectMark p none := by
  simp only [State.badAnnouncement, State.onRef_putRef, State.codeError]

theorem RefRecord.windowOver_of_pulse {r : RefRecord} {x : PendingPulse} {raw : Nat} (h : r.pulse = some x)
    (hd : r.config.windowMs * 1000000 ≤ raw - x.rawMark) : r.windowOver raw = true := by
  rw [RefRecord.windowOver, h, Option.any_some, decide_eq_true_eq]
  exact hd

/-- Settles O15. -/
theorem breaksAndAnnounceWindows : Obligations.BreaksAndAnnounceWindows := by
  refine ⟨?breaks, ?windows⟩
  case breaks =>
    intro dt p s hp h2 hst u r cut
    have hw : s.refs[p].state.watched = true := (RefState.watched_iff _).2 hst
    refine ⟨fun _ => atEvent_next hp (if_pos ⟨isMessagePort_of_le h2, hw⟩), fun hcollect => ?_⟩
    have hcut : cut = .next (u.badAnnouncement p) := atEvent_next hp (if_pos ⟨isMessagePort_of_le h2, hcollect, hw⟩)
    have hbad := u.badAnnouncement_putRef p s.refs[p]
    rw [show u.putRef p s.refs[p] = u from u.putRef_self p] at hbad
    obtain ⟨hearly, hreanchors, hfails⟩ := u.rejectMark_cases p _ none hbad.symm
    refine ⟨fun hk => hcut.trans (congrArg _ (hearly hk)), fun hk => ⟨fun hst => ?_, ?_⟩⟩
    · exact hcut.trans (congrArg _ (hreanchors hst hk))
    · intro ha gone
      exact hcut.trans (congrArg _ (hfails ha hk))
  case windows =>
    intro dt p x s hp h2 hx u hdue
    exact atEvent_next hp (if_pos ⟨isMessagePort_of_le h2, RefRecord.windowOver_of_pulse hx hdue⟩)

end Sys2Proof.Machine
end

section
/-! PROOFS. Announcements at RP2 and RP3 (R26, R27, R170). -/

namespace Sys2Proof.Machine

theorem announcementOk_iff (chars : List Byte) (framing : Bool) :
    announcementOk chars framing = true ↔ framing = false ∧ be (chars.drop 8) = (frameCheck (chars.take 8)).toNat := by
  simp [announcementOk]

section
variable (u : State) (p : Fin 4) (r : RefRecord) (chars : List Byte)

theorem State.goodAnnouncement_unpaired (h : r.pulse = none) :
    (u.putRef p r).goodAnnouncement p chars = u.putRef p { r with
      counts := { r.counts with unpairedAnnouncements := min 65535 (r.counts.unpairedAnnouncements + 1) } } := by
  simp only [State.goodAnnouncement, State.putRef_same, h, State.onRef_putRef]
  rfl

/-- An announcement that pairs spends the pending pulse, whose second is judged (R27). -/
theorem State.goodAnnouncement_paired {x : PendingPulse} (h : r.pulse = some x) :
    (u.putRef p r).goodAnnouncement p chars = (u.putRef p { r with pulse := none }).judgeSecond p (field 0 6 chars) x.tMark x.rawMark
      (announcedU r.config.uFloor (field 6 2 chars)) := by
  simp only [State.goodAnnouncement, State.putRef_same, h, State.onRef_putRef]

end

/-- The record of a port whose announcement has been taken: it waits for a break, with the pending pulse spent (R27, R170). -/
def RefRecord.waiting (r : RefRecord) : RefRecord := { r with collecting := false, pulse := none }

section
variable {dt : Nat} {p : Fin 4} {chars : List Byte} {framing : Bool} {s : State}

/-- The tenth character at a watched message port in collection takes the announcement (R170). -/
theorem exec_announcement (hp : s.power = .running) (h2 : 2 ≤ p.val) (hlen : chars.length = 10)
    (hcollect : s.refs[p].collecting = true) (hw : s.refs[p].state.watched = true) :
    exec (.announcement dt p chars framing) s = .next
      (if announcementOk chars framing = true
       then ((s.elapse dt).putRef p { s.refs[p] with collecting := false }).goodAnnouncement p chars
       else ((s.elapse dt).putRef p { s.refs[p] with collecting := false }).badAnnouncement p) :=
  atEvent_next hp (if_pos ⟨isMessagePort_of_le h2, hlen, hcollect, hw⟩)

/-- A code error of an announcement: its check fails, or it pairs and names a second out of range (R25, R27). -/
theorem announcement_codeError (u : State) (r : RefRecord)
    (h : announcementOk chars framing = false ∨ announcementOk chars framing = true ∧ r.pulse.isSome = true ∧
      ¬ (0 ≤ (field 0 6 chars : Int) + r.config.secondOffset ∧ (field 0 6 chars : Int) + r.config.secondOffset ≤ maxSecond)) :
    (if announcementOk chars framing = true then (u.putRef p { r with collecting := false }).goodAnnouncement p chars
      else (u.putRef p { r with collecting := false }).badAnnouncement p) =
    (u.putRef p r.waiting.countCodeError).rejectMark p none := by
  obtain hbad | ⟨hgood, hpulse, hout⟩ := h
  · rw [if_neg (Bool.eq_false_iff.1 hbad), State.badAnnouncement_putRef]
    rfl
  · obtain ⟨x, hx⟩ := Option.isSome_iff_exists.1 hpulse
    rw [if_pos hgood, State.goodAnnouncement_paired u p _ chars (by exact hx), State.judgeSecond_out, State.codeError_putRef]
    · rfl
    · by_contra hcon
      exact hout ⟨not_lt.1 fun h => hcon (.inl h), not_lt.1 fun h => hcon (.inr h)⟩

/-- An announcement that pairs in range makes the pulse's mark, which the filter judges (R27, R28). -/
theorem announcement_marks (u : State) (r : RefRecord) {x : PendingPulse} (hgood : announcementOk chars framing = true)
    (hx : r.pulse = some x) (h0 : 0 ≤ (field 0 6 chars : Int) + r.config.secondOffset)
    (h1 : (field 0 6 chars : Int) + r.config.secondOffset ≤ maxSecond) :
    (if announcementOk chars framing = true then (u.putRef p { r with collecting := false }).goodAnnouncement p chars
      else (u.putRef p { r with collecting := false }).badAnnouncement p) =
    (u.putRef p r.waiting).filterMark p (markOf ((field 0 6 chars : Int) + r.config.secondOffset) x.tMark x.rawMark
      (announcedU r.config.uFloor (field 6 2 chars))) := by
  rw [if_pos hgood, State.goodAnnouncement_paired u p _ chars (by exact hx)]
  exact State.judgeSecond_in u p r.waiting h0 h1 _ _ _

end

/-- Settles O14. -/
theorem announcementIsPairedOrCounted : Obligations.AnnouncementIsPairedOrCounted := by
  intro dt p chars framing s hp h2 hlen hcollect hst u c counts run good waiting sec inRange q mark phi departure
  have hw : s.refs[p].state.watched = true := (RefState.watched_iff _).2 hst
  have hrun := exec_announcement (dt := dt) (framing := framing) hp h2 hlen hcollect hw
  have hgood : good ↔ announcementOk chars framing = true := (announcementOk_iff chars framing).symm
  refine ⟨fun hg hnone => ?unpaired, ?accepted, ?rejected⟩
  case unpaired =>
    rw [if_pos (hgood.1 hg), State.goodAnnouncement_unpaired _ p _ chars (by exact hnone)] at hrun
    have hpulse : waiting = { s.refs[p] with collecting := false } := by
      show RefRecord.waiting _ = _
      rw [RefRecord.waiting, ← hnone]
    rw [hpulse]
    exact hrun
  case accepted =>
    intro x hg hx hin hplausible m θ ready v
    obtain ⟨h0, h1⟩ := hin
    have hpass : run = .next (v.passOn p m θ) := by
      rw [announcement_marks (p := p) u s.refs[p] (hgood.1 hg) hx h0 h1] at hrun
      exact hrun.trans (congrArg _ (State.filterMark_plausible u p waiting ((RefRecord.plausible_iff _ _ _ _).2 hplausible)))
    have hstate : v.refs[p].state = if ready then .ready else s.refs[p].state := by
      show (u.putRef p _).refs[p].state = _
      rw [State.putRef_same]
    refine ⟨hpass, fun hq hnot => ?_, ?_⟩
    · rw [if_neg hnot] at hstate
      exact hpass.trans (congrArg _ (State.passOn_of_qualifying (hstate.trans hq) _ _))
    · intro ha hl r held due full hr
      rw [if_neg fun h => by cases h.1.symm.trans ha] at hstate
      rw [hpass, State.passOn_of_active (hstate.trans ha), State.applyMark_of_locked (by exact hl),
        State.applyLocked_eq (r := r) (held := held) (by exact hr)]
      rfl
  case rejected =>
    intro cause r anchored hcase
    have hrejection : ∃ (r₀ : RefRecord) (mark : Option Mark), run = .next ((u.putRef p r₀).rejectMark p mark) ∧
        r₀.state = s.refs[p].state ∧ r₀.rejects = s.refs[p].rejects ∧ r₀.config = c ∧ r₀.reject = r ∧
        r.reanchor mark = anchored ∧ (mark.elim .codeError fun _ => .implausible) = cause ∧
        r.pulse = none ∧ r.collecting = false := by
      obtain h | h := hcase
      · obtain ⟨herr, hcause, hr, hanchored⟩ := h
        have hr' : (RefRecord.waiting s.refs[p]).countCodeError.reject = r := hr.symm
        refine ⟨(RefRecord.waiting s.refs[p]).countCodeError, none, ?_, rfl, rfl, rfl, hr', hanchored.symm, hcause.symm,
          by rw [hr]; rfl, by rw [hr]; rfl⟩
        refine hrun.trans (congrArg _ (announcement_codeError (p := p) u s.refs[p] ?_))
        obtain hbad | ⟨hg, hpulse, hout⟩ := herr
        · exact .inl (Bool.eq_false_iff.2 fun h => hbad (hgood.2 h))
        · exact .inr ⟨hgood.1 hg, hpulse, hout⟩
      · obtain ⟨hg, ⟨h0, h1⟩, x, last, raw, hx, hlast, hraw, hfar, hcause, hr, hanchored⟩ := h
        have hr' : (RefRecord.waiting s.refs[p]).countRejected.reject = r := hr.symm
        refine ⟨(RefRecord.waiting s.refs[p]).countRejected, some (mark x), ?_, rfl, rfl, rfl, hr', hanchored.symm, hcause.symm,
          by rw [hr], by rw [hr]⟩
        refine (hrun.trans (congrArg _ (announcement_marks (p := p) u s.refs[p] (hgood.1 hg) hx h0 h1))).trans (congrArg _ ?_)
        exact State.filterMark_implausible u p waiting ((RefRecord.not_plausible_iff _ _ _ _).2 ⟨last, raw, hlast, hraw, hfar⟩)
    obtain ⟨r₀, mark, hrej, hst₀, hn, hc, hr, hanchored, hcause, hpulse, hcollecting⟩ := hrejection
    obtain ⟨hearly, hreanchors, hfails⟩ := u.rejectMark_cases p r₀ mark rfl
    rw [hst₀, hn, hc, hr, hanchored] at hreanchors
    rw [hst₀, hn, hc, hr, hcause] at hfails
    rw [hn, hc, hr] at hearly
    refine ⟨fun hk => hrej.trans (congrArg _ (hearly hk)), fun hst hk => hrej.trans (congrArg _ (hreanchors hst hk)), ?_⟩
    intro ha hk gone
    have hgone : r.fail cause = gone := by
      show _ = ({ r with state := .failed, cause := some cause, silence := none } : RefRecord)
      rw [RefRecord.fail, ← hpulse, ← hcollecting]
    have hfailed := hfails ha hk
    rw [hgone] at hfailed
    exact ⟨_, hrej, hfailed, fun hl => State.failed_loseActive (s := u) gone hl hfailed.symm⟩

end Sys2Proof.Machine
end

section
/-! PROOFS. What a request that is taken hands to its block, and the requests on references and on the timescale (1.8, 2.6, 2.7). -/

namespace Sys2Proof.Machine

/-! ### Requests that are taken (R71 to R73, R152, R153) -/

/-- A request that is taken is answered by its block, and its reply is placed. -/
theorem atEvent_taken {s : State} {dt : Nat} {k : Kind} {src : Source} {r : Taken} (hp : s.power = .running)
    (h : (s.elapse dt).taken k src = some r) {blk : Block} {t : State} {a : Answer}
    (hblk : blk r.path r.instant r.payload r.state = (t, a)) :
    s.atEvent dt (takeRequest k src blk) = .next (r.reply k a t) :=
  atEvent_next hp (by rw [takeRequest_of_taken h, hblk])

/-- What the taking of a request leaves as it was, before the request is answered. -/
structure TakenFrom (u v : State) : Prop where
  ts : v.ts = u.ts
  refs : v.refs = u.refs
  trace : v.trace = u.trace
  slots : v.slots = u.slots
  groupMap : v.groupMap = u.groupMap
  expiry : v.expiry = u.expiry
  drawCount : v.drawCount = u.drawCount
  retained : v.retained = u.retained
  limits : v.ops.limits = u.ops.limits
  alerts : v.ops.alerts = u.ops.alerts
  mask : v.ops.mask = u.ops.mask

theorem State.taken_from {u : State} {k : Kind} {src : Source} {r : Taken} (h : u.taken k src = some r) : TakenFrom u r.state := by
  cases src with
  | lane l tag payload =>
    simp only [State.taken] at h
    split at h
    · cases h
    · split at h
      · cases h
        constructor <;> rfl
      · cases h
  | ops tag payload =>
    simp only [State.taken] at h
    split at h
    · cases h
      constructor <;> rfl
    · cases h

/-! ### SET_TIMESCALE (R21) -/

theorem holdRate_of_le {limit : Nat} {r : Int} (h : r.natAbs ≤ limit) : holdRate limit r = r := by
  unfold holdRate
  omega

theorem holdRate_of_lt {limit : Nat} {r : Int} (h : limit < r.natAbs) :
    holdRate limit r = if r < 0 then -(limit : Int) else limit := by
  unfold holdRate
  split <;> omega

theorem Timescale.configure_within (c : TimescaleSettings) {t : Timescale} (h : t.rate.natAbs ≤ c.rateLimit) :
    t.configure c = { t with settings := c } := by
  simp [Timescale.configure, holdRate_of_le h]

theorem Timescale.configure_beyond (c : TimescaleSettings) {t : Timescale} (h : c.rateLimit < t.rate.natAbs) :
    t.configure c = { t with
      settings := c, rate := if t.rate < 0 then -(c.rateLimit : Int) else c.rateLimit, rateHeld := true } := by
  have hne : holdRate c.rateLimit t.rate ≠ t.rate := by
    rw [holdRate_of_lt h]
    split <;> omega
  rw [Timescale.configure, decide_eq_true hne, Bool.or_true, holdRate_of_lt h]

/-- Settles O7. -/
theorem setTimescaleWritesAllOrNothing : Obligations.SetTimescaleWritesAllOrNothing := by
  intro dt src s r hp h c
  have hts : r.state.ts.rate = s.ts.rate := by rw [(State.taken_from h).ts]; rfl
  refine ⟨fun hok => atEvent_taken hp h (if_neg (Bool.eq_false_iff.1 hok)), fun hok hin => atEvent_taken hp h ?_,
    fun hok hout => atEvent_taken hp h ?_⟩
  · refine (if_pos hok).trans ?_
    rw [Timescale.configure_within _ (by rw [hts]; exact hin)]
    rfl
  · refine (if_pos hok).trans ?_
    rw [Timescale.configure_beyond _ (by rw [hts]; exact hout), hts]
    rfl

/-! ### The loss in ACQUIRING (R14, R37, R39) -/

/-- The references that may become ACTIVE at a loss in ACQUIRING: the disputed standings are cleared at it, and θ is not asked out of
service (R37, R39). -/
theorem State.lostAcquiring_eligible {s : State} (h : s.ts.state = .acquiring) (p : Fin 4) :
    s.lostAcquiring.eligible p = true ↔ s.refs[p].state = .ready ∧ s.refs[p].fresh s.ts.raw = true := by
  have href : s.lostAcquiring.refs[p] = { s.refs[p] with disputed := false } := s.refs_clearDisputes p
  have hout : s.lostAcquiring.inService = false := by
    show s.ts.dropAnchor.state.inService = false
    rw [Timescale.dropAnchor, h]
    rfl
  rw [State.eligible_iff, href, hout]
  exact ⟨fun ⟨hr, _, hf, _⟩ => ⟨hr, hf⟩, fun ⟨hr, hf⟩ => ⟨hr, rfl, hf, fun h => (nomatch h)⟩⟩

theorem State.lostAcquiring_better (s : State) (p q : Fin 4) : s.lostAcquiring.better p q = true ↔
    s.refs[p].config.priority < s.refs[q].config.priority ∨
      s.refs[p].config.priority = s.refs[q].config.priority ∧ p < q := by
  have href : ∀ q : Fin 4, s.lostAcquiring.refs[q] = { s.refs[q] with disputed := false } := s.refs_clearDisputes
  rw [State.better_iff, href, href]

/-- Settles O17. -/
theorem lossInAcquiringReplacesOrUnsets : Obligations.LossInAcquiringReplacesOrUnsets := by
  intro s ha ok best
  have href : ∀ q : Fin 4, s.lostAcquiring.refs[q] = { s.refs[q] with disputed := false } := s.refs_clearDisputes
  refine ⟨fun p hbest => ?_, fun hnone => ?_⟩
  · have hb : (s.lostAcquiring.best fun q => s.lostAcquiring.eligible q) = some p := by
      simp only [State.best_eq_some_iff, State.lostAcquiring_eligible ha, State.lostAcquiring_better]
      exact hbest
    refine ⟨_, State.loseActive_of_acquiring_some ha hb, ?_, fun q hq => ?_, rfl, hasAlert_addAlert_self _ _⟩
    · show (s.lostAcquiring.onRef p fun r => { r with state := .active }).refs[p] = _
      rw [State.onRef_same, href]
    · show (s.lostAcquiring.onRef p fun r => { r with state := .active }).refs[q] = _
      rw [State.onRef_other _ p q hq, href]
  · have hb : (s.lostAcquiring.best fun q => s.lostAcquiring.eligible q) = none := by
      rw [State.best_eq_none_iff]
      exact fun q => Bool.eq_false_iff.2 fun h => hnone q ((State.lostAcquiring_eligible ha q).1 h)
    refine ⟨_, State.loseActive_of_acquiring_none ha hb, State.changeState_ts _ _, fun q => ?_⟩
    rw [State.changeState_refs, href]

/-! ### ARM_REFERENCE and DISABLE_REFERENCE (R34, R35) -/

theorem decodePort_of_eq {v : Nat} {p : Fin 4} (h : v = p.val) : decodePort v = some p := by
  subst h
  exact dif_pos p.isLt

theorem armReferenceBlock_eq {b : List Byte} {p : Fin 4} (hb : field 0 1 b = p.val) (path : Path) (instant : Nat) (s : State) :
    armReferenceBlock path instant b s =
      if s.refs[p].state.watched then refuse .wrongState s else (s.onRef p (RefRecord.arm s.ts.raw), .done .empty) := by
  simp only [armReferenceBlock, decodePort_of_eq hb]

theorem disableReferenceBlock_eq {b : List Byte} {p : Fin 4} (hb : field 0 1 b = p.val) (path : Path) (instant : Nat) (s : State) :
    disableReferenceBlock path instant b s =
      (if s.refs[p].state = .active then (s.onRef p RefRecord.disable).loseActive else s.onRef p RefRecord.disable,
        .done .empty) := by
  simp only [disableReferenceBlock, decodePort_of_eq hb]

/-- A loss raises ACTIVE_CHANGED, HOLDOVER_ENTERED and GRADE_CHANGE at most (R14, R15). -/
theorem State.loseActive_alerts_other {a : Alert} (hactive : a ≠ .activeChanged) (hhold : a ≠ .holdoverEntered)
    (hgrade : a ≠ .gradeChange) (s : State) : hasAlert a s.loseActive.ops.alerts = hasAlert a s.ops.alerts := by
  cases h : s.ts.state with
  | acquiring =>
    cases hb : s.lostAcquiring.best fun q => s.lostAcquiring.eligible q with
    | some p =>
      rw [State.loseActive_of_acquiring_some h hb]
      exact hasAlert_addAlert_other hactive _
    | none =>
      rw [State.loseActive_of_acquiring_none h hb]
      exact State.evaluate_alerts_other _ hgrade _
  | locked =>
    rw [State.loseActive_of_locked h]
    exact (State.evaluate_alerts_other _ hgrade _).trans (hasAlert_addAlert_other hhold _)
  | unset => rw [State.loseActive_of_idle (.inl h)]; rfl
  | holdover => rw [State.loseActive_of_idle (.inr h)]; rfl

/-- Settles O19. -/
theorem armAndDisableReference : Obligations.ArmAndDisableReference := by
  intro dt src p s r hp
  refine ⟨fun h hb => ?arm, ?disable⟩
  case arm =>
    have hfrom := State.taken_from h
    have href : r.state.refs[p] = s.refs[p] := by rw [hfrom.refs]; rfl
    have hraw : r.state.ts.raw = (s.elapse dt).ts.raw := by rw [hfrom.ts]
    refine ⟨fun hst => atEvent_taken hp h ((armReferenceBlock_eq hb _ _ _).trans ?_),
      fun hst => atEvent_taken hp h ((armReferenceBlock_eq hb _ _ _).trans ?_)⟩
    · rw [href, hraw, State.onRef_eq_putRef, href]
      exact if_neg fun hw => by obtain h | h := hst <;> rw [h] at hw <;> cases hw
    · rw [href]
      exact if_pos ((RefState.watched_iff _).2 hst)
  case disable =>
    intro h hb off
    have hfrom := State.taken_from h
    have href : r.state.refs[p] = s.refs[p] := by rw [hfrom.refs]; rfl
    have hrun : ∀ {e : State}, (if s.refs[p].state = .active then (r.state.onRef p RefRecord.disable).loseActive
        else r.state.onRef p RefRecord.disable) = e →
        exec (.disableReference dt src) s = .next (r.reply .disableReference (.done .empty) e) := by
      intro e he
      exact atEvent_taken hp h ((disableReferenceBlock_eq hb _ _ _).trans (by rw [href, he]))
    have hoff : s.refs[p].state ≠ .ready → r.state.onRef p RefRecord.disable = r.state.putRef p off := by
      intro hnot
      rw [State.onRef_eq_putRef, href, RefRecord.disable, if_neg hnot]
    refine ⟨fun hst => hrun ?_, fun hst => hrun ?_, fun ha => ⟨_, hrun rfl, ?_⟩⟩
    · have hidle : s.refs[p].state ≠ .active ∧ s.refs[p].state ≠ .ready := by
        obtain h | h | h := hst <;> rw [h] <;> decide
      rw [if_neg hidle.1, hoff hidle.2]
      rfl
    · rw [if_neg (by rw [hst]; decide), State.onRef_eq_putRef, href, RefRecord.disable, if_pos hst]
      rfl
    · rw [if_pos ha, hoff (by rw [ha]; decide)]
      refine ⟨rfl, fun hn => ?_, fun hl => ?_⟩
      · rw [State.loseActive_alerts_other (by decide) (by decide) (by decide)]
        exact (congrArg (hasAlert .referenceFailed) hfrom.alerts).trans hn
      · have hloss := State.loseActive_enters_holdover (s := r.state.putRef p off)
          ((congrArg Timescale.state hfrom.ts).trans hl)
        refine ⟨hloss.ts, ?_, hloss.slots.trans hfrom.slots, hloss.lanes, ?_, hloss.entered⟩
        · rw [hloss.refs, State.putRef_same]
        · rw [hloss.interval]
          exact congrArg (fun x : Trace => min 65535 (x.interval.holdovers + 1)) hfrom.trace

/-! ### SET_REFERENCE and READ_REFERENCE (R33, R36) -/

/-- Settles O20. -/
theorem setAndReadReference : Obligations.SetAndReadReference := by
  intro dt src p s r hp hb
  refine ⟨fun h c hc => ?set, fun h => ?read⟩
  case set =>
    have href : r.state.refs[p] = s.refs[p] := by rw [(State.taken_from h).refs]; rfl
    have hblk : setReferenceBlock r.path r.instant r.payload r.state =
        if s.refs[p].state ≠ .disabled then refuse .wrongState r.state
        else if c.ok then (r.state.onRef p fun x => { x with config := c }, .done (.refConfig p c)) else refuse .range r.state := by
      simp only [setReferenceBlock, decodePort_of_eq hb, href, hc]
    refine ⟨fun hst => atEvent_taken hp h (hblk.trans (if_pos hst)), fun hst hok => atEvent_taken hp h (hblk.trans ?_),
      fun hst hok => atEvent_taken hp h (hblk.trans ?_)⟩
    · rw [if_neg (not_not.2 hst), if_neg (Bool.eq_false_iff.1 hok)]
      rfl
    · rw [if_neg (not_not.2 hst), if_pos hok, State.onRef_eq_putRef, href]
      rfl
  case read =>
    have hfrom := State.taken_from h
    have href : r.state.refs[p] = s.refs[p] := by rw [hfrom.refs]; rfl
    have hset : r.state.ts.settings = s.ts.settings := by rw [hfrom.ts]; rfl
    have hlim : r.state.ops.limits = s.ops.limits := hfrom.limits
    refine atEvent_taken hp h ?_
    simp only [readReferenceBlock, decodePort_of_eq hb, href, hset, hlim]

end Sys2Proof.Machine
end

section
/-! PROOFS. RESYNC, and the vote on a READY reference's mark (1.7, 2.7, 2.8). -/

namespace Sys2Proof.Machine

/-! ### RESYNC (R19, R41) -/

/-- A record as a RESYNC leaves it where another reference is chosen: READY where it was ACTIVE, with no disputed standing (R41). -/
def RefRecord.stoodDown (r : RefRecord) : RefRecord :=
  { r with disputed := false, state := if r.state = .active then .ready else r.state }

theorem RefRecord.stoodDown_of_idle {r : RefRecord} (h : r.state ≠ .active) : r.stoodDown = { r with disputed := false } := by
  rw [RefRecord.stoodDown, if_neg h]

/-- Out of service DG is UNTRACED once it is evaluated (R53). -/
theorem State.changeState_out {st : TimescaleState} (h : st.inService = false) (s : State) : s.changeState st = { s with
    ts := { s.ts with state := st }, trace := { s.trace with dg := .untraced }
    ops := { s.ops with
      alerts := if s.trace.dg = .untraced then s.ops.alerts else addAlert .gradeChange s.ops.alerts } } := by
  have hout : ({ s with ts := { s.ts with state := st } } : State).inService = false := h
  rw [State.changeState, State.evaluate_eq, hout, evalGrade_out_of_service]
  by_cases hdg : s.trace.dg = .untraced
  · rw [if_pos hdg, if_pos hdg.symm]
  · rw [if_neg hdg, if_neg (Ne.symm hdg)]

section
variable {s : State} {p : Fin 4}

theorem State.resyncChoice_eq_some_iff : s.resyncChoice = some p ↔
    (s.refs[p].state = .ready ∨ s.refs[p].state = .active) ∧
      ∀ q, s.refs[q].state = .ready ∨ s.refs[q].state = .active → q ≠ p → s.better p q = true := by
  simp only [State.resyncChoice, State.best_eq_some_iff, Bool.or_eq_true, beq_iff_eq]

theorem State.resyncChoice_eq_none_iff :
    s.resyncChoice = none ↔ ∀ q : Fin 4, ¬ (s.refs[q].state = .ready ∨ s.refs[q].state = .active) := by
  simp only [State.resyncChoice, State.best_eq_none_iff, Bool.or_eq_false_iff, beq_eq_false_iff_ne, not_or]

theorem State.resyncSelect_of_none (h : s.resyncChoice = none) : s.resyncSelect = s.clearDisputes := by
  simp only [State.resyncSelect, State.resyncChoice_clearDisputes, h]

theorem State.resyncSelect_of_active (h : s.resyncChoice = some p) (hp : s.refs[p].state = .active) :
    s.resyncSelect = s.clearDisputes := by
  simp only [State.resyncSelect, State.resyncChoice_clearDisputes, h]
  exact if_pos (by rw [State.refs_clearDisputes]; exact hp)

/-- The old ACTIVE reference stands down, and another becomes ACTIVE (R41). -/
theorem State.resyncSelect_of_ready (hone : ∀ q q' : Fin 4, s.refs[q].state = .active → s.refs[q'].state = .active → q = q')
    (h : s.resyncChoice = some p) (hp : s.refs[p].state ≠ .active) :
    ∃ refs : Vector RefRecord 4, (∀ q : Fin 4, refs[q] = s.refs[q].stoodDown) ∧
      s.resyncSelect = State.becomeActive p { s with refs := refs } := by
  simp only [State.resyncSelect, State.resyncChoice_clearDisputes, h]
  rw [if_neg (by rw [State.refs_clearDisputes]; exact hp)]
  cases hold : s.clearDisputes.activePort with
  | none =>
    refine ⟨s.clearDisputes.refs, fun q => ?_, rfl⟩
    have hidle := (State.activePort_eq_none_iff _).1 hold q
    rw [State.refs_clearDisputes] at hidle ⊢
    exact (RefRecord.stoodDown_of_idle hidle).symm
  | some old =>
    have hactive := State.active_of_activePort hold
    rw [State.refs_clearDisputes] at hactive
    refine ⟨(s.clearDisputes.onRef old fun r => { r with state := .ready }).refs, fun q => ?_, rfl⟩
    rw [State.refs_onRef, State.refs_clearDisputes, State.refs_clearDisputes]
    split
    · next hq =>
      rw [hq, RefRecord.stoodDown, if_pos (by exact hactive)]
    · next hq => exact (RefRecord.stoodDown_of_idle fun ha => hq (hone q old ha hactive)).symm

theorem State.reportedPort_of_acquiring (hs : s.ts.state = .acquiring) (h : s.activeIs (some p)) : s.reportedPort = some p := by
  simp only [State.reportedPort, hs]
  cases ha : s.activePort with
  | none => exact absurd ((h p).2 rfl) ((s.activePort_eq_none_iff).1 ha p)
  | some a => exact ((h a).1 (State.active_of_activePort ha)).symm

theorem State.reportedPort_of_unset (hs : s.ts.state = .unset) : s.reportedPort = none := by
  simp only [State.reportedPort, hs]

end

/-- Settles O21. -/
theorem resyncLeavesServiceForAReference : Obligations.ResyncLeavesServiceForAReference := by
  intro dt src s r hp h
  have hfrom := State.taken_from h
  have hservice : r.state.inService = s.inService := by rw [State.inService, hfrom.ts]; rfl
  have hlive : r.state.anyLive = s.anyLive := by rw [State.anyLive, hfrom.slots]; rfl
  have href : ∀ q : Fin 4, r.state.refs[q] = s.refs[q] := fun q => by rw [hfrom.refs]; rfl
  have hdg : r.state.trace = s.trace := hfrom.trace
  have halerts : r.state.ops.alerts = s.ops.alerts := hfrom.alerts
  have hblk : resyncBlock r.path r.instant r.payload r.state =
      if (!s.inService) = true then refuse .notInService r.state
      else if s.anyLive = true then refuse .wrongPhase r.state
      else (r.state.resyncTake, .done (.resync r.state.resyncTake.ts.state r.state.resyncTake.reportedPort)) := by
    rw [← hservice, ← hlive]
    rfl
  refine ⟨fun hs => atEvent_taken hp h (hblk.trans (if_pos (by rw [hs]; rfl))), fun hs hl => atEvent_taken hp h (hblk.trans ?_), ?_⟩
  · rw [if_neg (by rw [hs]; decide), if_pos hl]
    rfl
  intro hs hl hone candidate best left
  have hone' : ∀ q q' : Fin 4, r.state.refs[q].state = .active → r.state.refs[q'].state = .active → q = q' :=
    fun q q' hq hq' => hone q q' (by rw [← href]; exact hq) (by rw [← href]; exact hq')
  have hrun : ∀ {t : State} {st : TimescaleState} {port : Option (Fin 4)}, r.state.resyncTake = t → t.ts.state = st →
      t.reportedPort = port → exec (.resync dt src) s = .next (r.reply .resync (.done (.resync st port)) t) := by
    intro t st port ht hst hport
    refine atEvent_taken hp h (hblk.trans ?_)
    rw [if_neg (by rw [hs]; decide), if_neg (Bool.eq_false_iff.1 hl), ht, hst, hport]
  refine ⟨fun p hbest => ?chosen, fun hnone => ?unset⟩
  case unset =>
    have hchoice : r.state.resyncChoice = none := State.resyncChoice_eq_none_iff.2 fun q hq => hnone q (by rw [href] at hq; exact hq)
    refine hrun ?_ rfl (State.reportedPort_of_unset rfl)
    rw [State.resyncTake, State.resyncSelect_of_none hchoice, hchoice, State.changeState_out rfl]
    simp only [left, ← hdg, ← halerts]
    rw [State.clearDisputes, hfrom.refs]
    rfl
  case chosen =>
    have hchoice : r.state.resyncChoice = some p := by
      simp only [State.resyncChoice_eq_some_iff, State.better_iff, href]
      exact hbest
    by_cases ha : s.refs[p].state = .active
    · have ha' : r.state.refs[p].state = .active := by rw [href]; exact ha
      refine ⟨r.state.clearDisputes.refs, ?_, fun q hq => ?_, ?_⟩
      · rw [State.refs_clearDisputes, href, ← ha]
      · rw [State.refs_clearDisputes, href, if_neg fun hq' => hq (hone q p hq' ha)]
      · rw [if_pos ha]
        refine hrun ?_ rfl (State.reportedPort_of_acquiring rfl fun q => ?_)
        · rw [State.resyncTake, State.resyncSelect_of_active hchoice ha', hchoice, State.changeState_out rfl]
          simp only [left, ← hdg, ← halerts]
          rfl
        · show r.state.clearDisputes.refs[q].state = _ ↔ _
          rw [State.refs_clearDisputes]
          exact ⟨fun hq => by rw [hone' q p hq ha'], fun hq => by rw [← Option.some.inj hq]; exact ha'⟩
    · have ha' : r.state.refs[p].state ≠ .active := by rw [href]; exact ha
      obtain ⟨refs, hrefs, hselect⟩ := State.resyncSelect_of_ready hone' hchoice ha'
      have hactive : State.activeIs none { r.state with refs := refs } := State.activeIs_none_iff.2 fun q => by
        show refs[q].state ≠ .active
        rw [hrefs, RefRecord.stoodDown]
        dsimp only
        split
        · exact fun h => nomatch h
        · next hq => exact hq
      have hchosen : ∀ q : Fin 4, (State.becomeActive p { r.state with refs := refs }).refs[q] =
          if q = p then { refs[p] with state := .active } else refs[q] := fun q =>
        State.refs_onRef { r.state with refs := refs } p q fun r => { r with state := .active }
      refine ⟨(State.becomeActive p { r.state with refs := refs }).refs, ?_, fun q hq => ?_, ?_⟩
      · rw [hchosen, if_pos rfl, hrefs, href]
        rfl
      · rw [hchosen, if_neg hq, hrefs, href]
        rfl
      · rw [if_neg ha]
        refine hrun ?_ rfl (State.reportedPort_of_acquiring rfl (hactive.becomeActive p))
        rw [State.resyncTake, hselect, hchoice, State.changeState_out rfl]
        simp only [left, ← hdg, ← halerts]
        rfl

/-! ### The vote (R43, R44) -/

theorem two_le_length_iff {α : Type} [DecidableEq α] {l : List α} (h : l.Nodup) :
    2 ≤ l.length ↔ ∃ x y, x ≠ y ∧ x ∈ l ∧ y ∈ l := by
  show 1 < l.length ↔ _
  rw [← List.toFinset_card_of_nodup h, Finset.one_lt_card_iff]
  simp only [List.mem_toFinset]
  exact ⟨fun ⟨x, y, hx, hy, hne⟩ => ⟨x, y, hne, hx, hy⟩, fun ⟨x, y, hne, hx, hy⟩ => ⟨x, y, hx, hy, hne⟩⟩

theorem State.mem_disputers {s : State} {q : Fin 4} :
    q ∈ s.disputers ↔ s.refs[q].state = .ready ∧ s.refs[q].disputed = true := by
  simp [State.disputers, List.mem_filter]

theorem State.agree_iff {s : State} {q q' : Fin 4} : s.agree q q' = true ↔
    ∃ x y, s.refs[q].lastTheta = some x ∧ s.refs[q'].lastTheta = some y ∧ (x.1 - y.1).natAbs ≤ s.ops.limits.crossLimit := by
  unfold State.agree
  cases hq : s.refs[q].lastTheta <;> cases hq' : s.refs[q'].lastTheta <;> simp

/-- Two or more READY references are disputed, and every pair of them agrees (R44). -/
theorem State.outvoted_iff (s : State) : s.outvoted = true ↔
    (∃ q q' : Fin 4, q ≠ q' ∧ (s.refs[q].state = .ready ∧ s.refs[q].disputed = true) ∧
      (s.refs[q'].state = .ready ∧ s.refs[q'].disputed = true)) ∧
    ∀ q q' : Fin 4, s.refs[q].state = .ready ∧ s.refs[q].disputed = true → s.refs[q'].state = .ready ∧ s.refs[q'].disputed = true →
      ∃ x y, s.refs[q].lastTheta = some x ∧ s.refs[q'].lastTheta = some y ∧ (x.1 - y.1).natAbs ≤ s.ops.limits.crossLimit := by
  have hnodup : s.disputers.Nodup := (List.nodup_finRange 4).filter _
  simp only [State.outvoted, Bool.and_eq_true, decide_eq_true_eq, two_le_length_iff hnodup, List.all_eq_true, State.mem_disputers,
    State.agree_iff]
  exact and_congr_right fun _ => ⟨fun h q q' hq hq' => h q hq q' hq', fun h q hq q' hq' => h q q' hq hq'⟩

section
variable {s : State} {p a : Fin 4}

theorem State.activePort_of_unique (ha : s.refs[a].state = .active) (hone : ∀ q : Fin 4, s.refs[q].state = .active → q = a) :
    s.activePort = some a := by
  cases h : s.activePort with
  | none => exact absurd ha ((s.activePort_eq_none_iff).1 h a)
  | some b => rw [hone b (State.active_of_activePort h)]

theorem State.passOn_of_standby (hp : s.refs[p].state = .ready) (ha : s.activePort = some a) (m : Mark) (θ : Int) :
    s.passOn p m θ = if s.inService then s.voteMark p a m θ else s := by
  simp only [State.passOn, hp, ha]

/-- Revertive switching is due (R40). -/
theorem State.revert_due_iff (hs : s.inService = true) :
    (s.ops.limits.revertive && s.ts.state == .locked && s.better p a && s.eligibleAtMark p) = true ↔
    s.ops.limits.revertive = true ∧ s.ts.state = .locked ∧ s.better p a = true ∧ s.refs[p].state = .ready ∧
      s.refs[p].disputed = false ∧ ∃ x, s.refs[p].lastTheta = some x ∧ x.1.natAbs ≤ s.ops.limits.acceptLimit := by
  simp only [Bool.and_eq_true, beq_iff_eq, State.eligibleAtMark_iff, hs, forall_const, and_assoc]

/-- The revertive change: the mark is applied in LOCKED with no frequency update, and r is saved (R17, R40). -/
theorem State.applyFirstMark_locked_eq (h : s.ts.state = .locked) (m : Mark) (θ : Int) : s.applyFirstMark p m θ = { s with
    ts := { s.ts with
      lockCount := 0, slew := θ * unit, anchor := some (p, m.rawMark), lastMark := some (m.uRef, m.tMark) }
    retained := { s.retained with savedRate := s.ts.rate, valid := true } } := by
  rw [State.applyFirstMark_of_locked h, State.applyLocked, Timescale.slewTo_of_no_anchor rfl]
  rfl

/-- What the vote makes of the state: the standby's disputed standing, and its alert (R43). -/
theorem State.vote_eq (s : State) (p : Fin 4) (θ : Int) (d : Bool)
    (hd : d = decide (s.ops.limits.crossLimit < (θ - s.ts.slewNs).natAbs)) :
    s.vote p θ = { s with
      refs := s.refs.set p { s.refs[p] with disputed := d }
      ops := if d = true ∧ s.refs[p].disputed = false then { s.ops with alerts := addAlert .referenceDispute s.ops.alerts }
             else s.ops } := by
  subst hd
  unfold State.vote
  simp only [Bool.and_eq_true, Bool.not_eq_eq_eq_not, Bool.not_true]
  split <;> rfl

end

/-- Settles O18. -/
theorem agreeingDisputersOutvoteTheActive : Obligations.AgreeingDisputersOutvoteTheActive := by
  intro p a m θ s hp ha hone far v disputer outvoted wins
  have hne : a ≠ p := fun h => by rw [h, hp] at ha; cases ha
  have hpass := State.passOn_of_standby hp (State.activePort_of_unique ha hone) m θ
  have hv : s.vote p θ = v := by
    rw [State.vote_eq s p θ (decide far) rfl]
    simp only [decide_eq_true_eq]
    rfl
  have hlimits : v.ops.limits = s.ops.limits := by
    show (if _ then _ else _ : OpsPort).limits = _
    split <;> rfl
  have hvp : v.refs[p] = { s.refs[p] with disputed := decide far } := s.putRef_same p _
  have hvq : ∀ q, q ≠ p → v.refs[q] = s.refs[q] := fun q hq => s.putRef_other hq _
  have hvstate : ∀ q : Fin 4, v.refs[q].state = s.refs[q].state := fun q => by rw [← hv]; exact s.vote_state p q θ
  have hout : v.outvoted = true ↔ outvoted := by
    rw [State.outvoted_iff, hlimits]
  have hvservice : v.inService = s.inService := rfl
  have hdue : s.inService = true →
      ((v.ops.limits.revertive && v.ts.state == .locked && v.better p a && v.eligibleAtMark p) = true ↔ wins) := by
    intro hs
    rw [State.revert_due_iff (hvservice.trans hs), State.better_iff, hlimits, hvp, hvq a hne]
    simp only [decide_eq_false_iff_not]
    exact ⟨fun ⟨hr, hl, hb, _, hf, hx⟩ => ⟨hr, hl, hf, hx, hb⟩, fun ⟨hr, hl, hf, hx, hb⟩ => ⟨hr, hl, hb, hp, hf, hx⟩⟩
  have hvote : s.inService = true →
      s.passOn p m θ = if v.outvoted = true then v.failRef a .outvoted else v.revert p a m θ := by
    intro hs
    rw [hpass, if_pos hs, State.voteMark, hv]
  refine ⟨fun hs => by rw [hpass, if_neg (Bool.eq_false_iff.1 hs)], fun hl ho => ?outvoted, fun hs ho hw => ?kept, fun ho hw => ?reverts⟩
  case outvoted =>
    have hs : s.inService = true := by rw [State.inService, hl]; rfl
    refine ⟨_, (hvote hs).trans ((if_pos (hout.2 ho)).trans (State.failRef_of_active ((hvstate a).trans ha) _)), ?_⟩
    have hloss := State.loseActive_enters_holdover (s := (v.putRef a (v.refs[a].fail .outvoted)).raise .referenceFailed) hl
    have hgone : ∀ q : Fin 4, ((v.putRef a (v.refs[a].fail .outvoted)).raise .referenceFailed).refs[q] =
        if q = a then v.refs[a].fail .outvoted else v.refs[q] := fun q => v.refs_onRef a q _
    refine ⟨?_, ?_, fun q => by rw [hloss.refs], fun q hq => ?_, hloss.ts, hloss.alerts _ (hasAlert_addAlert_self _ _),
      hloss.entered, fun hf hd => hloss.alerts _ (hasAlert_addAlert ?_)⟩
    · rw [hloss.refs, hgone, if_pos rfl]
      rfl
    · rw [hloss.refs, hgone, if_pos rfl]
      rfl
    · rw [hloss.refs, hgone, if_neg hq]
      exact hvstate q
    · show hasAlert .referenceDispute (if far ∧ s.refs[p].disputed = false then _ else _ : OpsPort).alerts = true
      rw [if_pos ⟨hf, hd⟩]
      exact hasAlert_addAlert_self _ _
  case kept =>
    rw [hvote hs, if_neg (mt hout.1 ho), State.revert]
    exact if_neg (mt (hdue hs).1 hw)
  case reverts =>
    obtain ⟨-, hl, hnear, -⟩ := id hw
    have hs : s.inService = true := by rw [State.inService, hl]; rfl
    have hrefs : ∀ q : Fin 4, (State.becomeActive p (v.onRef a fun r => { r with state := .ready }).clearDisputes).refs[q] =
        if q = p then { v.refs[p] with state := .active, disputed := false }
        else if q = a then { v.refs[a] with state := .ready, disputed := false } else { v.refs[q] with disputed := false } := by
      intro q
      refine (State.refs_onRef (v.onRef a fun r => { r with state := .ready }).clearDisputes p q
        fun r => { r with state := .active }).trans ?_
      rw [State.refs_clearDisputes, State.refs_clearDisputes, State.refs_onRef, State.refs_onRef, if_neg (Ne.symm hne)]
      split
      · rfl
      · split <;> rfl
    refine ⟨_, (hvote hs).trans ((if_neg (mt hout.1 ho)).trans ((if_pos ((hdue hs).2 hw)).trans
      (State.applyFirstMark_locked_eq (by exact hl) m θ))), ?_, ?_, fun q hq hqa => ?_, ?_⟩
    · refine (hrefs p).trans ?_
      rw [if_pos rfl, hvp]
    · refine (hrefs a).trans ?_
      rw [if_neg hne, if_pos rfl, hvq a hne]
    · refine (hrefs q).trans ?_
      rw [if_neg hq, if_neg hqa, hvq q hq]
    · have hops : v.ops = s.ops := if_neg fun h => hnear h.1
      rw [← hops]
      rfl

end Sys2Proof.Machine
end

section
/-! PROOFS. Codes and seconds (2.3), the bound, the device grade, and the requests on traceability and time (chapter 3, 5.3). -/

namespace Sys2Proof.Machine

/-! ### Width extension and Gray codes (R24, R25) -/

/-- The nearest number of a residue class to `p`, the lower on a tie, is `p` less its distance from below, or the next of the class. -/
theorem nearestCount_nearest {w v : Nat} (p : Int) (hv : v < 2 ^ w) :
    nearestCount w v p % 2 ^ w = v ∧ ∀ y : Int, y % 2 ^ w = v →
      (nearestCount w v p - p).natAbs ≤ (y - p).natAbs ∧
      ((nearestCount w v p - p).natAbs = (y - p).natAbs → nearestCount w v p ≤ y) := by
  have hpos : (0 : Int) < 2 ^ w := by positivity
  have hlt : (v : Int) < 2 ^ w := by exact_mod_cast hv
  have hsplit := Int.mul_ediv_add_emod (p - v) (2 ^ w)
  have hnonneg := Int.emod_nonneg (p - v) hpos.ne'
  have hbelow := Int.emod_lt_of_pos (p - v) hpos
  unfold nearestCount
  dsimp only
  generalize (p - v) % 2 ^ w = below at hsplit hnonneg hbelow ⊢
  generalize (p - v) / 2 ^ w = k at hsplit
  have hclass : ∀ j : Int, (v + 2 ^ w * j) % 2 ^ w = v := fun j => by
    rw [Int.add_mul_emod_self_left, Int.emod_eq_of_lt (Int.natCast_nonneg v) hlt]
  refine ⟨?_, fun y hy => ?_⟩
  · split
    · rw [show p - below = v + 2 ^ w * k by omega]
      exact hclass k
    · rw [show p - below + 2 ^ w = v + 2 ^ w * (k + 1) by rw [mul_add]; omega]
      exact hclass (k + 1)
  · have hdiff : y - p = 2 ^ w * (y / 2 ^ w - k) - below := by
      have hy' := Int.mul_ediv_add_emod y (2 ^ w)
      rw [mul_sub]
      omega
    generalize y / 2 ^ w - k = n at hdiff
    have hside : 2 ^ w * n ≤ 0 ∨ (2 : Int) ^ w ≤ 2 ^ w * n := by
      obtain h | h : n ≤ 0 ∨ 1 ≤ n := by omega
      · exact .inl (mul_nonpos_of_nonneg_of_nonpos hpos.le h)
      · exact .inr (le_mul_of_one_le_right hpos.le h)
    generalize 2 ^ w * n = t at hdiff hside
    split <;> omega

/-- The digits of a number above its digit `k`, and that digit. -/
theorem shiftRight_eq_digit (v k : Nat) : 2 * (v >>> (k + 1)) + (v.testBit k).toNat = v >>> k := by
  rw [Nat.shiftRight_succ, Nat.testBit_eq_decide_div_mod_eq, Nat.shiftRight_eq_div_pow]
  rcases Nat.mod_two_eq_zero_or_one (v / 2 ^ k) with h | h <;> simp [h] <;> omega

/-- Decoding the digits of a Gray code below digit `k`, with the digits from `k` on decoded (R24). -/
theorem grayDecode_gray (v k : Nat) : grayDecode (v ^^^ (v >>> 1)) k (v.testBit k) (v >>> k) = v := by
  induction k with
  | zero => rfl
  | succ k ih =>
    have hdigit : (v.testBit (k + 1) ^^ (v ^^^ (v >>> 1)).testBit k) = v.testBit k := by
      rw [Nat.testBit_xor, Nat.testBit_shiftRight, Nat.add_comm 1 k]
      cases v.testBit k <;> cases v.testBit (k + 1) <;> rfl
    rw [grayDecode, hdigit, shiftRight_eq_digit]
    exact ih

/-- Settles O23. -/
theorem codesConvertAndExtendToTheNearestSecond : Obligations.CodesConvertAndExtendToTheNearestSecond := by
  refine ⟨fun w v p hv => nearestCount_nearest p hv, fun w v hv => ?_⟩
  have h := grayDecode_gray v w
  rwa [Nat.testBit_lt_two_pow hv, Nat.shiftRight_eq_div_pow v w, Nat.div_eq_of_lt hv] at h

/-! ### The bound in service (R49, R50) -/

theorem ageMs_eq (t mark : Nat) : ageMs t mark = if t < mark then 0 else (t - mark) / 1000000 := by
  unfold ageMs
  split
  · next h => rw [Nat.sub_eq_zero_of_le h.le, Nat.zero_div]
  · rfl

theorem Timescale.slewNs_natAbs (t : Timescale) : t.slewNs.natAbs = t.slew.natAbs / 1000000000000 := by
  rw [Timescale.slewNs, Int.natAbs_tdiv]
  rfl

/-- Settles O25. -/
theorem boundInServiceIsTheSumOfItsTerms : Obligations.BoundInServiceIsTheSumOfItsTerms := by
  intro s t uRef mark hs hmark age h1 h2
  have hs' : s.ts.state.inService = true := hs
  simp only [State.bound, boundAt, hs', hmark, growth1, growth2, Timescale.slewNs_natAbs, ageMs_eq, pow_two]
  rfl

/-! ### The device grade in service (R51, R52) -/

theorem exceedsHeld_iff (t : TraceSettings) (dg : Grade) (u : Nat) :
    exceedsHeld t dg u = true ↔ ∃ g, t.threshold dg = some g ∧ g < u := by
  cases dg <;> simp [exceedsHeld, TraceSettings.threshold]

/-- What a promotion does: it never lowers the grade, it moves it to one whose promotion limit the bound meets, and no better one's
limit is met (R52). -/
theorem promoted_spec (t : TraceSettings) (dg : Grade) (u : Nat) :
    (promoted t dg u).rank ≤ dg.rank ∧
    (promoted t dg u ≠ dg → ∃ g, t.threshold (promoted t dg u) = some g ∧ u ≤ g - g / 8) ∧
    ∀ (e : Grade) (g : Nat), e.rank < (promoted t dg u).rank → t.threshold e = some g → g - g / 8 < u := by
  unfold promoted promotionLimit
  split
  · next h => exact ⟨Nat.zero_le _, fun _ => ⟨_, rfl, h.2⟩, fun e g he => absurd he (Nat.not_lt_zero _)⟩
  · next hA =>
    split
    · next h =>
      refine ⟨h.1.le, fun _ => ⟨_, rfl, h.2⟩, fun e g he hg => ?_⟩
      cases e with
      | a =>
        cases hg
        exact Nat.lt_of_not_le fun hle => hA ⟨(Nat.zero_lt_one).trans h.1, hle⟩
      | _ => exact absurd he (by decide)
    · next hB =>
      split
      · next h =>
        refine ⟨h.1.le, fun _ => ⟨_, rfl, h.2⟩, fun e g he hg => ?_⟩
        cases e with
        | a =>
          cases hg
          exact Nat.lt_of_not_le fun hle => hA ⟨(Nat.zero_lt_two).trans h.1, hle⟩
        | b =>
          cases hg
          exact Nat.lt_of_not_le fun hle => hB ⟨Nat.one_lt_two.trans h.1, hle⟩
        | _ => exact absurd he (by decide)
      · next hC =>
        refine ⟨le_refl _, fun h => absurd rfl h, fun e g he hg => ?_⟩
        cases e with
        | a =>
          cases hg
          exact Nat.lt_of_not_le fun hle => hA ⟨he, hle⟩
        | b =>
          cases hg
          exact Nat.lt_of_not_le fun hle => hB ⟨he, hle⟩
        | c =>
          cases hg
          exact Nat.lt_of_not_le fun hle => hC ⟨he, hle⟩
        | untraced => cases hg

/-- Settles O26. -/
theorem deviceGradeFallsAtOnceAndRisesWithHysteresis : Obligations.DeviceGradeFallsAtOnceAndRisesWithHysteresis := by
  intro ts dg u
  refine ⟨fun g hg hu => ?_, fun hheld => ?_⟩
  · rw [evalGrade, if_pos rfl, if_pos ((exceedsHeld_iff ts dg u).2 ⟨g, hg, hu⟩)]
  · have hkept : exceedsHeld ts dg u = false := Bool.eq_false_iff.2 fun h => by
      obtain ⟨g, hg, hu⟩ := (exceedsHeld_iff ts dg u).1 h
      exact absurd (hheld g hg) (Nat.not_le.2 hu)
    have heval : evalGrade ts true dg u = promoted ts dg u := by
      rw [evalGrade, if_pos rfl, hkept]
      rfl
    intro d
    rw [show d = promoted ts dg u from heval]
    exact promoted_spec ts dg u

/-! ### Requests that the operations port alone may issue (R73) -/

/-- A request of a kind that no role allows on a lane is taken at the port, at the exchange time that stands. -/
theorem State.taken_at_port {u : State} {k : Kind} {src : Source} {r : Taken} (h : u.taken k src = some r)
    (hk : ∀ roles : Roles, roles.allow k = false) :
    r.path = .ops ∧ r.instant = u.now ∧ r.state = { u with ops := { u.ops with lastWrite := .taken, spi := none } } := by
  cases src with
  | lane l tag payload =>
    simp only [State.taken] at h
    split at h
    · cases h
    · split at h
      · next hc => exact absurd hc.2.2.2.2 (Bool.eq_false_iff.1 (hk _))
      · cases h
  | ops tag payload =>
    simp only [State.taken] at h
    split at h
    · cases h
      exact ⟨rfl, rfl, rfl⟩
    · cases h

/-! ### SET_TRACE, TRACE_REPORT, CLOSE_INTERVAL and READ_TIME (R60, R61, R62, R89) -/

theorem State.reportedPort_eq (s : State) :
    s.reportedPort = if s.ts.state = .unset ∨ s.ts.state = .holdover then none else s.activePort := by
  unfold State.reportedPort
  split <;> next h => rw [h]; rfl

theorem State.reportedAge_eq (t : Nat) (s : State) :
    s.reportedAge t = if s.inService then s.ts.lastMark.map fun m => (t - m.2) / 1000000 else none := by
  unfold State.reportedAge
  rfl

/-- Settles O28. -/
theorem traceRequestsAndReadTime : Obligations.TraceRequestsAndReadTime := by
  refine ⟨fun dt src s r hp => ⟨?setTrace, ?traceReport, ?closeInterval⟩, ?readTime⟩
  case setTrace =>
    intro h t
    obtain ⟨-, hnow, hstate⟩ := State.taken_at_port h fun _ => rfl
    refine ⟨fun hok => atEvent_taken hp h (if_neg (Bool.eq_false_iff.1 hok)), fun hok => ?_⟩
    have hinstant : r.instant = r.state.now := by rw [hnow, hstate]; rfl
    rw [hinstant]
    exact atEvent_taken hp h (if_pos hok)
  case traceReport =>
    intro h e
    have hfrom := State.taken_from h
    have hts : e.ts = (s.elapse dt).ts := (State.evaluate_ts _ _).trans hfrom.ts
    have hrefs : e.refs = s.refs := (State.evaluate_refs _ _).trans hfrom.refs
    have hservice : e.inService = s.inService := by rw [State.inService, hts]; rfl
    have hsettings : e.trace.settings = s.trace.settings := by
      rw [← show r.state.trace = s.trace from hfrom.trace, show e = r.state.evaluate r.instant from rfl, State.evaluate_eq]
    have hinterval : e.trace.interval = s.trace.interval :=
      (State.evaluate_interval _ _).trans (congrArg Trace.interval hfrom.trace)
    have hslew : e.ts.slewNs = r.state.ts.slewNs := congrArg Timescale.slewNs (State.evaluate_ts _ _)
    refine atEvent_taken hp h ?_
    show (e, Answer.done (.traceReport
      { state := e.ts.state, activePort := e.reportedPort, dg := e.trace.dg, u := r.state.bound r.instant
        slewNs := e.ts.slewNs, rate := e.ts.rate, ageMs := e.reportedAge r.instant, rateHeld := e.ts.rateHeld
        disputed := e.disputedPorts, timescale := e.ts.settings, settings := e.trace.settings
        interval := e.trace.interval, endTime := r.instant })) = _
    rw [hslew, State.reportedPort_eq, State.reportedAge_eq, State.activePort, State.disputedPorts, hservice, hts, hrefs, hsettings,
      hinterval]
    rfl
  case closeInterval =>
    intro h
    have hfrom := State.taken_from h
    obtain ⟨-, hnow, hstate⟩ := State.taken_at_port h fun _ => rfl
    have hinstant : r.instant = r.state.now := by rw [hnow, hstate]; rfl
    rw [hinstant]
    refine atEvent_taken hp h ?_
    rw [closeIntervalBlock, hfrom.trace]
    rfl
  case readTime =>
    intro dt src s r hp h u g
    have hfrom := State.taken_from h
    have htrace : r.state.trace = s.trace := hfrom.trace
    have hservice : r.state.inService = s.inService := by rw [State.inService, hfrom.ts]; rfl
    have halerts : r.state.ops.alerts = s.ops.alerts := hfrom.alerts
    refine atEvent_taken hp h ?_
    rw [readTimeBlock, State.evaluate_eq, htrace, hservice, halerts]

end Sys2Proof.Machine
end

section
/-! PROOFS. Client lanes and their calibration: links, probes, echoes, LANE_STATUS and SET_LANE (chapters 4 and 6). -/

namespace Sys2Proof.Machine

/-! ### One lane's record, and the use of its window -/

/-- A change of a lane puts its changed record in its place. -/
theorem State.onLane_eq {s : State} {l : Fin 16} {f : Lane → Lane} {n : Lane} (h : f s.lanes[l] = n) :
    s.onLane l f = { s with lanes := s.lanes.set l n } := by rw [← h]; rfl

/-- A window's standing is CALIBRATED exactly from four samples on (R110). -/
theorem derive_standing_calibrated (cmax c0 a : Nat) (w : List Sample) :
    (derive cmax c0 a w).standing = .calibrated ↔ ¬ w.length < 4 := by
  by_cases h : w.length ≤ 3
  · have hlt : w.length < 4 := by omega
    simp only [derive, if_pos h, standingOf_le_three h, hlt, not_true, iff_false]
    split <;> decide
  · have hlt : ¬ w.length < 4 := by omega
    simp only [derive, if_neg h, hlt, not_false_eq_true, iff_true]
    split <;> rfl

/-- A use of a lane's window raises CALIBRATION_LOST exactly where a CALIBRATED lane is left with fewer than four samples (R112). -/
theorem State.useWindow_eq {s : State} {l : Fin 16} {f : Lane → Lane} {n : Lane} {cmax c0 a : Nat} {w : List Sample}
    (h : f s.lanes[l] = n) (hd : n.derived = derive cmax c0 a w) :
    s.useWindow l f =
      if s.lanes[l].derived.standing = .calibrated ∧ w.length < 4
      then ({ s with lanes := s.lanes.set l n } : State).raise .calibrationLost
      else { s with lanes := s.lanes.set l n } := by
  have hlost : lostCalibration s.lanes[l] n = true ↔ s.lanes[l].derived.standing = .calibrated ∧ w.length < 4 := by
    rw [lostCalibration, Bool.and_eq_true, beq_iff_eq, bne_iff_ne, hd, ne_eq, derive_standing_calibrated, not_not]
  simp only [State.useWindow, State.onLane_eq h, h, hlost]

/-- The samples that are too old are those whose age exceeds the limit (R109). -/
theorem agedWindow_eq (now limit : Nat) (w : List Sample) :
    agedWindow now limit w = w.filter fun x => decide (now - x.taken ≤ limit * 1000000000) := by
  refine List.filter_congr fun x _ => ?_
  rw [Sample.tooOld, ← decide_not, second]
  exact decide_eq_decide.2 Nat.not_lt

/-- The use of a window at an event, in the terms of the obligations (R109 to R112). -/
theorem State.ageLane_eq (s : State) (l : Fin 16) : s.ageLane l = s.windowUsed l := by
  rw [State.ageLane, State.useWindow_eq rfl rfl, State.windowUsed]
  simp only [Lane.age, Lane.withWindow, agedWindow_eq]
  rfl

/-! ### Link up and link down (R65, R66) -/

/-- Settles O30, by the state of the lane's link. -/
theorem linkUpAndLinkDown : Obligations.LinkUpAndLinkDown := by
  intro dt l s hp
  refine ⟨fun hup => atEvent_next hp (if_pos hup), fun hdn => atEvent_next hp ?_, fun hdn => atEvent_next hp ?_,
    fun hup => atEvent_next hp ?_⟩
  · have hdn' : ¬ (s.elapse dt).lanes[l].up = true := fun h => by rw [State.elapse_lanes, hdn] at h; cases h
    rw [linkComesUp, if_neg hdn', State.onLane_eq (n := { s.lanes[l] with
      up := true
      intervalDue := if s.lanes[l].settings.probeInterval = 0 then none
                     else some ((s.elapse dt).ts.raw + s.lanes[l].settings.probeInterval * 1000000) }) ?_]
    rw [Lane.startInterval]
    simp
  · exact if_neg fun h => by rw [State.elapse_lanes, hdn] at h; cases h
  · rw [linkGoesDown, if_pos (show (s.elapse dt).lanes[l].up = true from hup), State.useWindow_eq (w := []) rfl rfl]
    simp only [List.length_nil, Nat.ofNat_pos, and_true]
    exact apply_ite (State.raise .laneDown) _ _ _

/-! ### LANE_STATUS and SET_LANE (R81, R155) -/

theorem decodeLane_of_lt {v : Nat} {l : Fin 16} (h : v = l.val) : decodeLane v = some l := by
  subst h
  exact dif_pos l.isLt

theorem decodeLane_of_ge {v : Nat} (h : 16 ≤ v) : decodeLane v = none := dif_neg (by omega)

/-- Settles O33: the block's cases by path, lane number and clear choice. -/
theorem laneStatusReportsAndMayClear : Obligations.LaneStatusReportsAndMayClear := by
  intro dt src s r hp h
  refine ⟨fun l hl => ?_, fun l hops hl => ⟨fun hkeep => ?_, fun hclear => ?_⟩, fun hops hge => ?_⟩
  · exact atEvent_taken hp h (by rw [hl]; simp only [laneStatusBlock, State.ageLane_eq])
  · exact atEvent_taken hp h (by
      rw [hops]; simp only [laneStatusBlock, decodeLane_of_lt hl, hkeep, decodeFlag, State.ageLane_eq]; rfl)
  · exact atEvent_taken hp h (by
      rw [hops]; simp only [laneStatusBlock, decodeLane_of_lt hl, hclear, decodeFlag, State.ageLane_eq]; rfl)
  · exact atEvent_taken hp h (by rw [hops]; simp only [laneStatusBlock, decodeLane_of_ge hge]; rfl)

/-- Settles O34: only the port may issue SET_LANE, and what its taking leaves of lanes, limits and time is as it was. -/
theorem setLaneWritesTheSettingsAlone : Obligations.SetLaneWritesTheSettingsAlone := by
  intro dt src s r hp h
  obtain ⟨-, -, hstate⟩ := State.taken_at_port h fun _ => rfl
  have hcmax : r.state.ops.limits.cmax = s.ops.limits.cmax := by rw [hstate]; rfl
  have hlanes : r.state.lanes = s.lanes := by rw [hstate]; rfl
  have hraw : r.state.ts.raw = (s.elapse dt).ts.raw := by rw [hstate]
  refine ⟨fun hbad => atEvent_taken hp h ?_, fun l c hl hc => atEvent_taken hp h ?_⟩
  · simp only [setLaneBlock, hcmax]
    obtain hge | hnone := hbad
    · rw [decodeLane_of_ge hge]; rfl
    · rw [hnone]
      cases decodeLane (field 0 1 r.payload) <;> rfl
  · simp only [setLaneBlock, hcmax, decodeLane_of_lt hl, hc]
    rw [State.onLane_eq rfl, Lane.startInterval, hraw, hlanes]

/-! ### Probes (R101 to R104, R106) -/

theorem Lane.canProbe_iff (n : Lane) : n.canProbe = true ↔ n.probe = none ∧ n.notices < 8 := by
  rw [Lane.canProbe, Bool.and_eq_true, Option.isNone_iff_eq_none, decide_eq_true_eq, shareSize]

/-- The interval timer's expiry on an UP lane with a probe interval (R101). -/
theorem intervalExpiry_due {s : State} {l : Fin 16} {due : Nat} (hup : s.lanes[l].up = true)
    (hdue : s.lanes[l].intervalDue = some due) (hle : due ≤ s.ts.raw) (hon : s.lanes[l].settings.probeInterval ≠ 0) {n after : Lane}
    (hn : { s.lanes[l] with intervalDue := some (s.ts.raw + s.lanes[l].settings.probeInterval * 1000000) } = n)
    (hafter : (if n.canProbe then n.placeProbe else n) = after) :
    intervalExpiry l s = { s with lanes := s.lanes.set l after } := by
  have hstart : s.lanes[l].startInterval s.ts.raw = n := by rw [Lane.startInterval, if_pos ⟨hup, hon⟩, hn]
  simp only [intervalExpiry, hdue, if_pos (And.intro hup hle)]
  refine State.onLane_eq ?_
  simp only [hstart]
  exact hafter

/-- What is taken on a lane is taken there, of a lane that keeps its queues and its probe (R70, R71). -/
theorem State.taken_on_lane {u : State} {k : Kind} {l : Fin 16} {tag : Tag} {payload : List Byte} {r : Taken}
    (h : u.taken k (.lane l tag payload) = some r) :
    r.path = .lane l ∧ ∃ latch, u.lanes[l].rxLatch = some latch ∧ r.instant = latch ∧ r.tag = tag ∧ r.payload = payload ∧
      r.state = u.onLane l fun n => { n with rxLatch := none } := by
  simp only [State.taken] at h
  split at h
  · cases h
  · next latch hl =>
    split at h
    · cases h
      exact ⟨rfl, latch, hl, rfl, rfl, rfl, rfl⟩
    · cases h

/-- Settles O40, a clause for each of CALIBRATE, the interval timer, the departure and the echo timer. -/
theorem probesArePlacedDepartAndTimeOut : Obligations.ProbesArePlacedDepartAndTimeOut := by
  refine ⟨fun dt l s hp => ⟨fun tag payload r h => ?_, fun due hup hdue hle hon => ?_⟩, fun dt l tag s hp => ⟨?_, ?_⟩⟩
  · obtain ⟨hpath, latch, -, -, -, -, hstate⟩ := State.taken_on_lane h
    have hlane : r.state.lanes[l] = { s.lanes[l] with rxLatch := none } := by rw [hstate, State.onLane_same]; rfl
    have hfree : r.state.lanes[l].canProbe = true ↔ s.lanes[l].probe = none ∧ s.lanes[l].notices < 8 := by
      rw [hlane]; exact Lane.canProbe_iff _
    have htag : r.state.lanes[l].tagCounter = s.lanes[l].tagCounter := by rw [hlane]
    refine ⟨fun hf => atEvent_taken hp h ?_, fun hf => atEvent_taken hp h ?_⟩
    · simp only [calibrateBlock, hpath, if_pos (hfree.2 hf), htag]
      rfl
    · simp only [calibrateBlock, hpath, if_neg fun hc => hf (hfree.1 hc)]
      rfl
  · exact ⟨fun hf => atEvent_next hp (intervalExpiry_due (s := s.elapse dt) hup hdue hle hon rfl
        (if_pos ((Lane.canProbe_iff _).2 hf))),
      fun hf => atEvent_next hp (intervalExpiry_due (s := s.elapse dt) hup hdue hle hon rfl
        (if_neg fun hc => hf ((Lane.canProbe_iff _).1 hc)))⟩
  · intro rest hup htx hprobe
    have hhead : s.lanes[l].probeAtHead = true := by rw [Lane.probeAtHead, htx, hprobe]; exact beq_self_eq_true tag
    refine atEvent_next hp ((if_pos (Bool.and_eq_true_iff.2 ⟨hup, hhead⟩)).trans (State.onLane_eq ?_))
    have hprobe' : (s.elapse dt).lanes[l].probe = some { tag, departed := none } := hprobe
    rw [hprobe']
    rfl
  · intro due left hdue hle hprobe
    have hdue' : (s.elapse dt).lanes[l].echoDue = some due := hdue
    have hprobe' : (s.elapse dt).lanes[l].probe = some { tag, departed := left } := hprobe
    refine atEvent_next hp ?_
    rw [echoTimerExpires, hdue', hprobe']
    exact (if_pos hle).trans (State.onLane_eq rfl)

/-! ### Echoes (R105) -/

/-- A whole ECHO at an UP lane with a frame in reception is classified, its latch spent (R69, R105). -/
theorem exec_echo_whole {s : State} (hp : s.power = .running) {l : Fin 16} {latch : Nat} (hup : s.lanes[l].up = true)
    (hl : s.lanes[l].rxLatch = some latch) (dt : Nat) (tag : Tag) {payload : List Byte} (hlen : payload.length ≤ 248) {t : State}
    (h : ((s.elapse dt).onLane l fun n => { n with rxLatch := none }).classifyEcho l latch tag payload = t) :
    exec (.echo dt (.lane l) tag payload) s = .next t :=
  have hwhole : echoEnds l tag payload (s.elapse dt) =
      ((s.elapse dt).onLane l fun n => { n with rxLatch := none }).classifyEcho l latch tag payload :=
    laneFrame_whole (s := s.elapse dt) hup hl hlen _
  atEvent_next hp (hwhole.trans h)

/-- Half of the round trip less the turnaround is below 0 exactly where that difference is. -/
theorem delaySample_neg_iff (latch departed turnaround : Nat) :
    delaySample latch departed turnaround < 0 ↔ (latch : Int) - departed - turnaround < 0 := by
  rw [delaySample, Int.fdiv_eq_ediv_of_nonneg _ (by decide)]
  omega

/-- A sample of 0 or more joins the aged window, whose oldest of eight leaves (R105, R108, R109). -/
theorem State.answerProbe_sample {u e : State} {l : Fin 16} {n : Lane} {w : List Sample} {latch left turnaround : Nat}
    (h : 0 ≤ (latch : Int) - left - turnaround) (hn : u.lanes[l] = n)
    (hw : appendSample { d := (((latch : Int) - left - turnaround) / 2).toNat, taken := latch }
      (n.window.filter fun y => decide (u.ts.ns - y.taken ≤ n.settings.ageLimit * 1000000000)) = w)
    (he : (u.onLane l fun _ => n.answered.withWindow u.ops.limits.cmax w) = e) :
    u.answerProbe l latch left turnaround =
      if n.derived.standing = .calibrated ∧ w.length < 4 then e.raise .calibrationLost else e := by
  have hpos : ¬ delaySample latch left turnaround < 0 := fun hlt => by
    have := (delaySample_neg_iff latch left turnaround).1 hlt
    omega
  have hhalf : delaySample latch left turnaround = ((latch : Int) - left - turnaround) / 2 :=
    Int.fdiv_eq_ediv_of_nonneg _ (by decide)
  rw [State.answerProbe, if_neg hpos, ← he, ← hn]
  refine State.useWindow_eq (w := w) ?_ rfl
  show u.lanes[l].answered.withWindow u.ops.limits.cmax (appendSample _ (agedWindow u.now _ _)) = _
  rw [agedWindow_eq, hhalf, hn]
  exact congrArg (fun w => n.answered.withWindow u.ops.limits.cmax w) hw

/-- The echo of the departed probe (R105, R108, R109). -/
theorem classifyEcho_of_departed {u : State} {l : Fin 16} {latch left : Nat} {tag : Tag} {payload : List Byte}
    (hlen : payload.length = 2) (hprobe : u.lanes[l].probe = some { tag, departed := some left }) :
    u.classifyEcho l latch tag payload = u.answerProbe l latch left (field 0 2 payload) := by
  rw [State.classifyEcho, if_neg (not_not.2 hlen), hprobe]
  exact if_pos rfl

/-- An echo of no outstanding probe is late where its tag is the last expired one, and bad else (R105). -/
theorem classifyEcho_of_other {u : State} {l : Fin 16} {latch : Nat} {tag : Tag} {payload : List Byte}
    (hlen : payload.length = 2) (hprobe : ∀ p, u.lanes[l].probe = some p → p.tag ≠ tag) :
    u.classifyEcho l latch tag payload =
      if u.lanes[l].lastExpired = some tag then u.onLane l Lane.lateEcho else u.onLane l Lane.badEcho := by
  rw [State.classifyEcho, if_neg (not_not.2 hlen)]
  cases hc : u.lanes[l].probe with
  | none => rfl
  | some p => exact if_neg fun h => hprobe p hc h.symm

/-- Settles O41, a clause for each class of echo. -/
theorem echoIsClassifiedByItsTag : Obligations.EchoIsClassifiedByItsTag := by
  intro dt l tag payload latch s hp hup hl u n bad late
  have hlane : (u.onLane l fun n => { n with rxLatch := none }).lanes[l] = n := State.onLane_same u l _
  have hput : ∀ f : Lane → Lane, (u.onLane l fun n => { n with rxLatch := none }).onLane l f =
      { u with lanes := u.lanes.set l (f n) } := fun f => (State.onLane_onLane u l _ f).trans (State.onLane_eq rfl)
  have hother : ∀ P : Option Probe → Prop, P n.probe → P (u.onLane l fun n => { n with rxLatch := none }).lanes[l].probe :=
    fun P hP => by rw [hlane]; exact hP
  have htwo : payload.length = 2 → payload.length ≤ 248 := fun h => by omega
  refine ⟨fun hshort hne => exec_echo_whole hp hup hl dt tag hshort ((if_pos hne).trans (hput _)), fun left hlen hprobe => ?_,
    fun hlen hprobe => ?_, fun hlen hprobe hlast => ?_, fun hlen hprobe hlast => ?_⟩
  · have hclass := classifyEcho_of_departed (latch := latch) hlen (hother (· = some { tag, departed := some left }) hprobe)
    refine ⟨fun hneg => exec_echo_whole hp hup hl dt tag (htwo hlen) (hclass.trans ?_),
      fun hpos => exec_echo_whole hp hup hl dt tag (htwo hlen) (hclass.trans ?_)⟩
    · exact (if_pos ((delaySample_neg_iff latch left _).2 hneg)).trans (hput _)
    · refine State.answerProbe_sample hpos hlane ?_ (hput _)
      rw [appendSample, List.drop_one]
      rfl
  · refine exec_echo_whole hp hup hl dt tag (htwo hlen) ?_
    rw [State.classifyEcho, if_neg (not_not.2 hlen), hlane, hprobe]
    exact (if_pos rfl).trans (hput _)
  · refine exec_echo_whole hp hup hl dt tag (htwo hlen) ((classifyEcho_of_other hlen ?_).trans ?_)
    · rw [hlane]; exact hprobe
    · rw [hlane, if_pos hlast]; exact hput _
  · refine exec_echo_whole hp hup hl dt tag (htwo hlen) ((classifyEcho_of_other hlen ?_).trans ?_)
    · rw [hlane]; exact hprobe
    · rw [hlane, if_neg hlast]; exact hput _

end Sys2Proof.Machine
end

section
/-! PROOFS. The ends of frames on a lane and at the port, their forms and their roles (4.3 to 4.7, 9.2). -/

namespace Sys2Proof.Machine

/-! ### Kinds and forms (R72, R169) -/

/-- A byte names a kind exactly where it is that kind's byte. -/
theorem Kind.byte_of_ofByte {b : Byte} {k : Kind} (h : Kind.ofByte b = some k) : b = k.byte := by
  have hcode : k.code = b.toNat := by simpa using List.find?_some h
  rw [Kind.byte, hcode, BitVec.ofNat_toNat, BitVec.setWidth_eq]

theorem Kind.byte_injective : Function.Injective Kind.byte := fun j k h => by
  have := Kind.ofByte_byte j
  rw [h, Kind.ofByte_byte k] at this
  cases this
  rfl

theorem Kind.byte_lt (k : Kind) : k.byte.toNat < 128 := by
  cases k <;> decide

/-- A kind byte and length have a bad form exactly where no kind of that byte allows the length (R72). -/
theorem formOk_eq_false_iff {p : Path} {b : Byte} {n : Nat} :
    formOk p b n = false ↔ ∀ k : Kind, b = k.byte → k.allows p n = false := by
  refine ⟨fun h k hk => ?_, fun h => ?_⟩
  · rw [hk, formOk_byte] at h; exact h
  · rw [formOk]
    cases hb : Kind.ofByte b with
    | none => rfl
    | some k => exact h k (Kind.byte_of_ofByte hb)

theorem formOk_long {p : Path} {b : Byte} {n : Nat} (h : 248 < n) : formOk p b n = false :=
  formOk_eq_false_iff.2 fun _ _ => Bool.eq_false_iff.2 fun hk => absurd (Kind.allows_short hk) (by omega)

/-- A request command other than a SYSTEM_RESET at the port is its taking, answered by the block of its kind (R71 to R73). -/
theorem exec_taking {c : Instr} {src : Source} {k : Kind} (h : c.request = some (src, k)) (hk : k ≠ .systemReset ∨ src.isOps = false)
    (s : State) : exec c s = s.atEvent c.dt (takeRequest k src k.block) := by
  cases c with
  | echo dt port tag payload =>
    cases port <;> simp only [Instr.request, reduceCtorEq, Option.some.injEq, Prod.mk.injEq] at h
    obtain ⟨rfl, rfl⟩ := h
    rfl
  | systemReset dt src' =>
    simp only [Instr.request, Option.some.injEq, Prod.mk.injEq] at h
    obtain ⟨rfl, rfl⟩ := h
    cases src' with
    | lane l tag payload => rfl
    | ops tag payload => exact (hk.elim (· rfl) nofun).elim
  | _ =>
    simp only [Instr.request, reduceCtorEq, Option.some.injEq, Prod.mk.injEq] at h
    all_goals
      obtain ⟨rfl, rfl⟩ := h
      rfl

/-- A request on a lane is no ECHO, which is classified there (R69). -/
theorem Instr.request_ne_echo {c : Instr} {l : Fin 16} {tag : Tag} {payload : List Byte} {k : Kind}
    (h : c.request = some (.lane l tag payload, k)) : k ≠ .echo := by
  rintro rfl
  cases c with
  | echo dt port tag payload => cases port <;> cases h
  | _ => cases h

/-! ### What the end of a request frame does (R68, R70, R71) -/

theorem laneFrame_long {l : Fin 16} {latch : Nat} {payload : List Byte} {s : State} (hup : s.lanes[l].up = true)
    (hl : s.lanes[l].rxLatch = some latch) (h : 248 < payload.length) (act : Nat → State → State) :
    laneFrame l payload act s = s.onLane l Lane.frameError := by
  simp only [laneFrame, hup, hl, if_pos h]

theorem laneFrame_congr {l : Fin 16} {payload : List Byte} {f g : Nat → State → State} {s : State}
    (h : ∀ latch, f latch s = g latch s) : laneFrame l payload f s = laneFrame l payload g s := by
  simp only [laneFrame, h]

theorem takeHead_congr {l : Fin 16} {f g : Request → State → State × Answer} {s : State}
    (h : ∀ q rest u, s.lanes[l].queue = q :: rest → f q u = g q u) : takeHead l f s = takeHead l g s := by
  cases hq : s.lanes[l].queue with
  | nil => rw [takeHead_empty hq, takeHead_empty hq]
  | cons q rest => simp only [takeHead, hq, h q rest _ hq]

theorem Lane.enqueue_empty {n : Lane} (h : n.queue = []) (q : Request) : (n.enqueue q).queue = [q] := by
  have hlt : n.queue.length < queueSize := by rw [h]; decide
  rw [Lane.enqueue, if_pos hlt, h, List.nil_append]

/-- The end of a request frame depends on the answer to that request alone. -/
theorem requestEnds_congr {l : Fin 16} {kind : Byte} {tag : Tag} {payload : List Byte} {f g : Request → State → State × Answer}
    (h : ∀ latch u, f { latch, kind, tag, payload } u = g { latch, kind, tag, payload } u) (s : State) :
    requestEnds l kind tag payload f s = requestEnds l kind tag payload g s := by
  refine laneFrame_congr fun latch => ?_
  cases hq : s.lanes[l].queue with
  | cons q rest => simp only [List.isEmpty_cons, Bool.false_eq_true, if_false]
  | nil =>
    refine takeHead_congr fun q rest u hqueue => ?_
    rw [State.onLane_same, Lane.enqueue_empty hq] at hqueue
    cases hqueue
    exact h latch u

/-- A whole request joins the queue and waits where requests wait or the reply share is full; where the queue is full it is an overrun
(R70, R71). -/
theorem requestEnds_waits {l : Fin 16} {latch : Nat} {s : State} (hup : s.lanes[l].up = true) (hl : s.lanes[l].rxLatch = some latch)
    {kind : Byte} {tag : Tag} {payload : List Byte} (hw : payload.length ≤ 248) (answer : Request → State → State × Answer)
    (h : s.lanes[l].queue ≠ [] ∨ 8 ≤ s.lanes[l].replies) :
    requestEnds l kind tag payload answer s = s.onLane l (Lane.enqueue { latch, kind, tag, payload }) := by
  refine (laneFrame_whole hup hl hw _).trans ?_
  have hreplies : (s.onLane l (Lane.enqueue { latch, kind, tag, payload })).lanes[l].replies = s.lanes[l].replies := by
    rw [State.onLane_same, Lane.enqueue]
    split <;> rfl
  cases hq : s.lanes[l].queue with
  | cons q rest => exact if_neg Bool.false_ne_true
  | nil =>
    have hfull : 8 ≤ s.lanes[l].replies := h.resolve_left (not_not.2 hq)
    exact takeHead_full (hreplies ▸ hfull) answer

/-- A request that ends with a bad form is refused, whatever its kind (R72). -/
theorem headAnswer_badForm {l : Fin 16} {q : Request} (h : formOk (.lane l) q.kind q.payload.length = false) (s : State) :
    headAnswer l q s = refuse .badForm s := by
  rw [headAnswer]
  cases hk : Kind.ofByte q.kind with
  | none => rfl
  | some k => simp only [laneAnswer, h, Bool.not_false, if_true]

theorem headAnswer_of_kind {l : Fin 16} {q : Request} {k : Kind} (h : q.kind = k.byte) (s : State) :
    headAnswer l q s = laneAnswer k k.block l q s := by
  rw [headAnswer, h, Kind.ofByte_byte]

theorem laneAnswer_noRight {l : Fin 16} {q : Request} {k : Kind} {blk : Block} {s : State} (hk : q.kind = k.byte)
    (hform : k.allows (.lane l) q.payload.length = true) (hrole : s.lanes[l].settings.roles.allow k = false) :
    laneAnswer k blk l q s = refuse .noRight s := by
  simp only [laneAnswer, hk, formOk_byte, hform, hrole, Bool.not_true, Bool.not_false, Bool.false_eq_true, if_false, if_true]

theorem laneAnswer_allowed {l : Fin 16} {q : Request} {k : Kind} {blk : Block} {s : State} (hk : q.kind = k.byte)
    (hform : k.allows (.lane l) q.payload.length = true) (hrole : s.lanes[l].settings.roles.allow k = true) :
    laneAnswer k blk l q s = blk (.lane l) q.latch q.payload s := by
  simp only [laneAnswer, hk, formOk_byte, hform, hrole, Bool.not_true, Bool.false_eq_true, if_false]

/-! ### FRAME_END (R67 to R71) -/

section
variable {s : State} {l : Fin 16} {latch : Nat} (hup : s.lanes[l].up = true) (hl : s.lanes[l].rxLatch = some latch)
include hup hl

/-- A frame with a line error, or one that is not whole, is counted and dropped (R68). -/
theorem frameEnds_bad {bytes : List Byte} {err : Bool} (h : err = true ∨ parseFrame bytes = none) :
    frameEnds l bytes err s = s.onLane l Lane.frameError := by
  have hnone : (if err then none else parseFrame bytes) = none := by
    obtain h | h := h
    · rw [if_pos h]
    · rw [h, ite_self]
  simp only [frameEnds, hup, hl, hnone]

theorem frameEnds_whole {bytes : List Byte} {err : Bool} {f : Frame} (herr : err = false) (hf : parseFrame bytes = some f) :
    frameEnds l bytes err s =
      if f.kind = Kind.echo.byte then echoEnds l f.tag f.payload s else requestEnds l f.kind f.tag f.payload (headAnswer l) s := by
  subst herr
  simp only [frameEnds, hup, hl, hf, Bool.false_eq_true, if_false]

end

/-- A frame that reads as whole carries at most 248 payload bytes (R68). -/
theorem parseFrame_payload {bytes : List Byte} {f : Frame} (h : parseFrame bytes = some f) : f.payload.length ≤ 248 := by
  unfold parseFrame at h
  dsimp only at h
  split at h
  · cases h
  · next hok =>
    push Not at hok
    obtain ⟨-, hlen, hfield, -⟩ := hok
    cases h
    simp only [List.length_drop, List.length_take]
    omega

/-! ### FRAME_LEAVES (R71, R78) -/

theorem Lane.probeAtHead_eq_false {n : Lane} {f : TxFrame} {rest : List TxFrame} (htx : n.tx = f :: rest)
    (h : ∀ tag p, f = .probe tag → n.probe = some p → p.tag = tag → p.departed.isSome = true) : n.probeAtHead = false := by
  rw [Lane.probeAtHead, htx]
  split
  · next tag t rest' hf hprobe =>
    cases hf
    refine Bool.eq_false_iff.2 fun htag => ?_
    cases h tag _ rfl hprobe (beq_iff_eq.1 htag).symm
  · rfl

/-- The head of the transmit queue leaves where it is no probe still to depart (R78, R104). -/
theorem headLeaves_eq {s : State} {l : Fin 16} {f : TxFrame} {rest : List TxFrame} (hup : s.lanes[l].up = true)
    (htx : s.lanes[l].tx = f :: rest) (hprobe : s.lanes[l].probeAtHead = false) :
    headLeaves l s =
      if f.isReply then takeHead l (headAnswer l) (s.onLane l fun n => { n with tx := rest, linkOut := some f.bytes })
      else s.onLane l fun n => { n with tx := rest, linkOut := some f.bytes } := by
  simp only [headLeaves, htx, hup, hprobe, Bool.not_false, Bool.and_self, if_true]

/-! ### O31 -/

/-- The end of a frame (R68 to R71), for a frame that is whole. -/
theorem exec_frameEnd_cases {dt : Nat} {l : Fin 16} {bytes : List Byte} {err : Bool} {s : State} {latch : Nat} {f : Frame}
    (hp : s.power = .running) (hup : s.lanes[l].up = true) (hl : s.lanes[l].rxLatch = some latch) (herr : err = false)
    (hf : parseFrame bytes = some f) :
    (f.kind = 4 → exec (.frameEnd dt l bytes err) s = exec (.echo dt (.lane l) f.tag f.payload) s) ∧
    (f.kind ≠ 4 → exec (.frameEnd dt l bytes err) s =
      .next (requestEnds l f.kind f.tag f.payload (headAnswer l) (s.elapse dt))) := by
  have hwhole := frameEnds_whole (s := s.elapse dt) (latch := latch) hup hl herr hf
  refine ⟨fun hk => ?_, fun hk => atEvent_next hp (hwhole.trans (if_neg hk))⟩
  exact (atEvent_next hp (hwhole.trans (if_pos hk))).trans (atEvent_running hp dt _).symm

/-- The command that ends a request frame on a lane is the end of that frame (R71; assumption 4). -/
theorem exec_of_request_on_lane {c : Instr} {l : Fin 16} {tag : Tag} {payload : List Byte} {k : Kind} {s : State}
    (hp : s.power = .running) (h : c.request = some (.lane l tag payload, k)) :
    exec c s = .next (requestEnds l k.byte tag payload (laneAnswer k k.block l) (s.elapse c.dt)) :=
  (exec_taking h (.inr rfl) s).trans (atEvent_running hp _ _)

theorem exec_unknownKind_on_lane {l : Fin 16} {tag : Tag} {payload : List Byte} {kind : Byte} {s : State} (hp : s.power = .running)
    (dt : Nat) (hform : formOk (.lane l) kind payload.length = false) (hne : kind = Kind.echo.byte → 248 < payload.length) :
    exec (.unknownKind dt (.lane l tag payload) kind) s =
      .next (requestEnds l kind tag payload (fun _ => refuse .badForm) (s.elapse dt)) := by
  have hno : ¬ (formOk (.lane l) kind payload.length = true ∨ kind = Kind.echo.byte ∧ payload.length ≤ 248) := by
    rintro (h | ⟨h, hlen⟩)
    · rw [hform] at h; cases h
    · have := hne h; omega
  exact atEvent_next hp (if_neg hno)

/-- The head of the queue that a reply's leaving takes, in the terms of O31. -/
theorem exec_frameLeaves_taken {dt : Nat} {l : Fin 16} {r : Reply} {rest : List TxFrame} {q : Request} {waiting : List Request}
    {s v : State} {x : State × Answer} (hp : s.power = .running) (hup : s.lanes[l].up = true) (htx : s.lanes[l].tx = .reply r :: rest)
    (hq : s.lanes[l].queue = q :: waiting)
    (hn : ({ s.lanes[l] with tx := rest, linkOut := some (TxFrame.reply r).bytes } : Lane).replies < 8)
    (hv : (s.elapse dt).onLane l (fun n => { n with tx := rest, linkOut := some (TxFrame.reply r).bytes, queue := waiting }) = v)
    (hx : headAnswer l q v = x) :
    exec (.frameLeaves dt l) s = .next (x.1.onLane l (Lane.join
      (.reply { kind := q.kind, tag := q.tag, code := x.2.code, ind := x.2.ind, body := x.2.body }))) := by
  have hprobe : s.lanes[l].probeAtHead = false := Lane.probeAtHead_eq_false htx fun _ _ h => by cases h
  refine atEvent_next hp ((headLeaves_eq (s := s.elapse dt) hup htx hprobe).trans ?_)
  have hlane : ((s.elapse dt).onLane l fun n => { n with tx := rest, linkOut := some (TxFrame.reply r).bytes }).lanes[l] =
      { s.lanes[l] with tx := rest, linkOut := some (TxFrame.reply r).bytes } := State.onLane_same _ l _
  have htake := takeHead_taken (q := q) (rest := waiting) (by rw [hlane]; exact hq) (by rw [hlane]; exact hup)
    (by rw [hlane]; exact hn) (headAnswer l)
  rw [State.onLane_onLane, hv, hx] at htake
  exact (if_pos rfl).trans htake

/-- Settles O31: the start delimiter, the end of a frame by what it holds and what waits, and the leaving of a frame. -/
theorem framesAreLatchedCheckedQueuedAndSent : Obligations.FramesAreLatchedCheckedQueuedAndSent := by
  refine ⟨fun dt l bytes err s hp hup => ⟨atEvent_next hp ((if_pos hup).trans (State.onLane_eq rfl)), fun latch hl => ?_⟩,
    fun dt l f rest s hp hup htx hdeparted => ⟨fun h => ?_, fun r q waiting hf hq hn => ?_⟩⟩
  · intro dropped
    have hdrop : (s.elapse dt).onLane l Lane.frameError = dropped := State.onLane_eq rfl
    refine ⟨fun hbad => atEvent_next hp ((frameEnds_bad (s := s.elapse dt) hup hl hbad).trans hdrop),
      fun tag payload hlong => ⟨fun c k hc hdt => ?_, fun kind => ?_, ?_⟩, fun f herr hf => ?_⟩
    · subst hdt
      rw [exec_of_request_on_lane hp hc]
      exact congrArg _ ((laneFrame_long (s := s.elapse c.dt) hup hl hlong _).trans hdrop)
    · rw [exec_unknownKind_on_lane hp dt (formOk_long hlong) fun _ => hlong]
      exact congrArg _ ((laneFrame_long (s := s.elapse dt) hup hl hlong _).trans hdrop)
    · have hlost : echoEnds l tag payload (s.elapse dt) = (s.elapse dt).onLane l Lane.frameError :=
        laneFrame_long (s := s.elapse dt) hup hl hlong _
      exact atEvent_next hp (hlost.trans hdrop)
    · obtain ⟨hecho, hrequest⟩ := exec_frameEnd_cases (dt := dt) hp hup hl herr hf
      have hshort := parseFrame_payload hf
      refine ⟨hecho, fun c k hc hk hdt => ?_, fun hunknown => ?_, fun hne hlen hwait => ?_, fun hne hfull => ?_⟩
      · subst hdt
        rw [hrequest fun h4 => Instr.request_ne_echo hc (Kind.byte_injective (hk.symm.trans h4)), exec_of_request_on_lane hp hc, hk]
        exact congrArg _ (requestEnds_congr (fun latch u => headAnswer_of_kind rfl u) _)
      · have hform : formOk (.lane l) f.kind f.payload.length = false :=
          formOk_eq_false_iff.2 fun k hk => absurd hk (hunknown k)
        rw [hrequest (hunknown .echo), exec_unknownKind_on_lane hp dt hform fun h => absurd h (hunknown .echo)]
        exact congrArg _ (requestEnds_congr (fun latch u => headAnswer_badForm hform u) _)
      · rw [hrequest hne, requestEnds_waits (s := s.elapse dt) hup hl hshort _ hwait]
        exact congrArg _ (State.onLane_eq (if_pos hlen))
      · have hne' : s.lanes[l].queue ≠ [] := fun h => by rw [h] at hfull; cases hfull
        rw [hrequest hne, requestEnds_waits (s := s.elapse dt) hup hl hshort _ (.inl hne')]
        exact congrArg _ (State.onLane_eq (if_neg (Nat.not_lt.2 hfull)))
  · have hprobe := Lane.probeAtHead_eq_false htx hdeparted
    refine atEvent_next hp ((headLeaves_eq (s := s.elapse dt) hup htx hprobe).trans ?_)
    obtain hnot | hempty := h
    · have hreply : f.isReply = false := by
        cases f with
        | reply r => exact absurd rfl (hnot r)
        | _ => rfl
      rw [hreply, if_neg Bool.false_ne_true]
      exact State.onLane_eq rfl
    · rw [takeHead_empty (by rw [State.onLane_same]; exact hempty), ite_self]
      exact State.onLane_eq rfl
  · subst hf
    intro v answered
    have hv : (s.elapse dt).onLane l (fun n => { n with tx := rest, linkOut := some (TxFrame.reply r).bytes, queue := waiting }) = v :=
      State.onLane_eq rfl
    have hlane : v.lanes[l].settings = s.lanes[l].settings := by rw [← hv, State.onLane_same]; rfl
    refine ⟨fun hform => ?_, fun k hk hform => ⟨fun hrole => ?_, fun hrole => ?_⟩⟩
    · exact exec_frameLeaves_taken hp hup htx hq hn hv (headAnswer_badForm (formOk_eq_false_iff.2 hform) v)
    · refine exec_frameLeaves_taken hp hup htx hq hn hv ((headAnswer_of_kind hk v).trans (laneAnswer_noRight hk hform ?_))
      rw [hlane]; exact hrole
    · refine exec_frameLeaves_taken hp hup htx hq hn hv ((headAnswer_of_kind hk v).trans (laneAnswer_allowed hk hform ?_))
      rw [hlane]; exact hrole

/-! ### O32 -/

theorem opsAnswer_laneOnly {k : Kind} {payload : List Byte} {blk : Block} {s : State} (hform : k.allows .ops payload.length = true)
    (hk : k.laneOnly = true) : opsAnswer k payload blk s = refuse .noRight s := by
  simp only [opsAnswer, formOk_byte, hform, hk, Bool.not_true, Bool.false_eq_true, if_false, if_true]

/-- STAMP, STAMP_KEYED, CALIBRATE and ECHO are refused at the port, where each is taken (R152, R153). -/
theorem takeRequest_laneOnly {k : Kind} {tag : Tag} {payload : List Byte} {s : State} (hspi : s.ops.spi = some 165)
    (hr : s.ops.reply = none) (hform : k.allows .ops payload.length = true) (hk : k.laneOnly = true) (blk : Block) :
    takeRequest k (.ops tag payload) blk s =
      State.holdReply k.byte tag (refuse .noRight { s with ops := { s.ops with lastWrite := .taken, spi := none } }) := by
  rw [takeRequest, takeFromOps, opsWrite_taken hspi (Kind.allows_short hform) hr, opsAnswer_laneOnly hform hk]

theorem Kind.laneOnly_of_mem {k : Kind} (h : k ∈ [Kind.stamp, .stampKeyed, .calibrate, .echo]) :
    k.laneOnly = true ∧ k ≠ .systemReset := by
  simp only [List.mem_cons, List.not_mem_nil, or_false] at h
  obtain rfl | rfl | rfl | rfl := h <;> exact ⟨rfl, nofun⟩

/-- Settles O32, a clause for each path and each refusal. -/
theorem requestsWithoutRightOrFormAreRefused : Obligations.RequestsWithoutRightOrFormAreRefused := by
  refine ⟨fun c k s hp => ⟨fun l tag payload latch hc hup hl hq hn hform hrole => ?_, fun tag payload hc hspi hr hk hform => ?_⟩,
    fun dt kind s hp => ⟨fun l tag payload latch hup hl hq hn hne hlen hbad => ?_, fun tag payload hspi hr hlen hbad => ?_,
      fun p n hge k hk => ?_⟩⟩
  · rw [exec_of_request_on_lane hp hc,
      requestEnds_at_once (s := s.elapse c.dt) hup hl hq hn k.byte tag (Kind.allows_short hform) (laneAnswer k k.block l),
      laneAnswer_noRight rfl hform (by rw [State.onLane_same]; exact hrole)]
    exact congrArg _ ((State.onLane_onLane _ l _ _).trans (State.onLane_eq rfl))
  · obtain ⟨honly, hne⟩ := Kind.laneOnly_of_mem hk
    rw [exec_taking hc (.inl hne)]
    exact atEvent_next hp (takeRequest_laneOnly (s := s.elapse c.dt) hspi hr hform honly k.block)
  · rw [exec_unknownKind_on_lane hp dt (formOk_eq_false_iff.2 hbad) fun h => absurd h hne,
      requestEnds_at_once (s := s.elapse dt) hup hl hq hn kind tag hlen _]
    exact congrArg _ ((State.onLane_onLane _ l _ _).trans (State.onLane_eq rfl))
  · have hform : ¬ formOk .ops kind payload.length = true := by rw [formOk_eq_false_iff.2 hbad]; exact Bool.false_ne_true
    exact atEvent_next hp ((if_neg hform).trans (opsWrite_taken (s := s.elapse dt) hspi hlen hr _))
  · have := Kind.byte_lt k
    rw [hk] at hge
    omega

end Sys2Proof.Machine
end

section
/-! PROOFS. Order dating (chapter 5): the stamp, its ruling, and the bringing up of the call its key names. -/

namespace Sys2Proof.Machine

/-! ### The ruling of a stamp (R92, R93) -/

theorem Call.counted_inCall {t : Nat} {c : Call} (h : c.rule t = .inCall) :
    ∃ x, c.counted t = { c with inCall := min 4294967295 (c.inCall + 1), latestIn := some x } ∧
      t ≤ x ∧ (∀ y, c.latestIn = some y → y ≤ x) ∧ (x = t ∨ c.latestIn = some x) := by
  refine ⟨max (c.latestIn.getD 0) t, by simp only [Call.counted, h]; rfl, le_max_right _ _, fun y hy => ?_, ?_⟩
  · rw [hy]; exact le_max_left _ _
  · cases hl : c.latestIn with
    | none => exact .inl (Nat.zero_max t)
    | some y =>
      obtain hle | hle := Nat.le_total y t
      · exact .inl (max_eq_right hle)
      · exact .inr (congrArg some (max_eq_left hle).symm)

theorem Call.counted_preCall {t : Nat} {c : Call} (h : c.rule t = .preCall) : c.counted t = c := by
  simp only [Call.counted, h]

theorem Call.counted_late {t : Nat} {c : Call} (h : c.rule t = .late) :
    c.counted t = if c.phase = .uncrossDue ∧ c.beforeEnd t then { c with stragglers := min 4294967295 (c.stragglers + 1) }
      else { c with late := min 4294967295 (c.late + 1) } := by
  simp only [Call.counted, h]
  rfl

theorem Call.beforeEnd_of_tEnd {c : Call} {e : Nat} (h : c.tEnd = some e) (t : Nat) : c.beforeEnd t = decide (t < e) := by
  rw [Call.beforeEnd, h, Option.any_some]

/-- Settles O38, phase by phase. -/
theorem rulingFollowsThePhaseAndTheTimes : Obligations.RulingFollowsThePhaseAndTheTimes := by
  intro t c
  have hpre : c.rule t = .preCall → c.rule t = .preCall ∧ c.counted t = c := fun h => ⟨h, c.counted_preCall h⟩
  refine ⟨fun hp => hpre (by simp only [Call.rule, hp]), fun hp => ?_, fun hp hlt => hpre ?_, fun hle hp => ?_,
    fun e hle he hp => ⟨fun hlt => ?_, fun hge => ?_⟩, fun e hle he hp => ?_⟩
  · have hr : c.rule t = .cancelled := by simp only [Call.rule, hp]
    exact ⟨hr, by simp only [Call.counted, hr]⟩
  · cases hc : c.phase with
    | scheduled => simp only [Call.rule, hc]
    | cancelled => exact absurd hc hp
    | call | window | extended | traceHold | settling | uncrossDue => simp only [Call.rule, hc, if_pos hlt]
  · have hr : c.rule t = .inCall := by
      obtain hp | hp | hp | hp := hp <;> simp only [Call.rule, hp, if_neg (Nat.not_lt.2 hle)]
    exact ⟨hr, Call.counted_inCall hr⟩
  · have hr : c.rule t = .inCall := by
      simp only [Call.rule, hp, if_neg (Nat.not_lt.2 hle), Call.beforeEnd_of_tEnd he, decide_eq_true_eq, if_pos hlt]
    exact ⟨hr, Call.counted_inCall hr⟩
  · have hr : c.rule t = .late := by
      simp only [Call.rule, hp, if_neg (Nat.not_lt.2 hle), Call.beforeEnd_of_tEnd he, decide_eq_true_eq, if_neg (Nat.not_lt.2 hge)]
    refine ⟨hr, (Call.counted_late hr).trans (if_neg fun h => ?_)⟩
    rw [hp] at h
    cases h.1
  · have hr : c.rule t = .late := by simp only [Call.rule, hp, if_neg (Nat.not_lt.2 hle)]
    refine ⟨hr, fun hlt => ?_, fun hge => ?_⟩
    · exact (Call.counted_late hr).trans (if_pos ⟨hp, by rw [Call.beforeEnd_of_tEnd he, decide_eq_true hlt]⟩)
    · refine (Call.counted_late hr).trans (if_neg ?_)
      rintro ⟨-, h⟩
      rw [Call.beforeEnd_of_tEnd he] at h
      exact Nat.not_lt.2 hge (of_decide_eq_true h)

/-! ### Dating (R83 to R88) -/

theorem Lane.stampsSpent_of_max {n : Lane} (h : n.lastStamp = some maxNs) : n.stampsSpent = true := by
  rw [Lane.stampsSpent, h, Option.any_some, decide_eq_true_eq]

theorem Lane.stampsSpent_of_lt {n : Lane} (h : ∀ x, n.lastStamp = some x → x < maxNs) : n.stampsSpent = false := by
  rw [Lane.stampsSpent]
  cases hl : n.lastStamp with
  | none => rfl
  | some x =>
    have := h x hl
    rw [Option.any_some, decide_eq_false_iff_not]
    omega

/-- A use of a lane's window leaves time and evidence as they were. -/
theorem State.windowUsed_frame (s : State) (l : Fin 16) :
    (s.windowUsed l).ts = s.ts ∧ (s.windowUsed l).trace = s.trace ∧ (s.windowUsed l).groupMap = s.groupMap ∧
    (s.windowUsed l).lanes[l].sequence = s.lanes[l].sequence ∧ (s.windowUsed l).lanes[l].lastStamp = s.lanes[l].lastStamp ∧
    (s.windowUsed l).lanes[l].settings = s.lanes[l].settings := by
  unfold State.windowUsed
  dsimp only
  split <;> simp

theorem sequence_wraps (n : BitVec 32) : (n + 1 == 0) = decide (n = 4294967295) := by
  rw [Bool.eq_iff_iff, beq_iff_eq, decide_eq_true_eq]
  bv_omega

/-- What a stamp writes and reports, from the lane whose window has been used, the stamp formed there, and the bound and grade. -/
theorem State.dateStamp_eq {s a e : State} {l : Fin 16} {tArr b : Nat} {d : Dated} {g : Grade} (ha : s.ageLane l = a)
    (hd : a.lanes[l].date tArr = d) (hb : stampBound ((a.onLane l (Lane.issue d)).bound tArr) a.lanes[l] d = b)
    (he : (a.onLane l (Lane.issue d)).evaluate tArr = e) (hg : stampGrade e.trace.settings e.trace.dg b = g) :
    s.dateStamp l tArr = (e.countStamp g, { lane := l, sequence := d.sequence, time := d.t, bound := b, grade := g },
      { late := false, held := stampHeld tArr a.lanes[l] d, degraded := !g.meets a.lanes[l].settings.required
        wrap := d.sequence == 0 }) := by
  subst ha hd hb he hg
  rfl

/-- Settles O36: the block's refusal and its stamp, and the dating written out with the window used. -/
theorem stampIsDatedClampedAndGraded : Obligations.StampIsDatedClampedAndGraded := by
  refine ⟨fun dt l tag payload s r hp h => ?_, fun l latch s => ?_⟩
  · obtain ⟨hpath, -, -, -, -, -, hstate⟩ := State.taken_on_lane h
    have hlast : r.state.lanes[l].lastStamp = s.lanes[l].lastStamp := by rw [hstate, State.onLane_same]; rfl
    refine ⟨fun hmax => atEvent_taken hp h ?_, fun hlt => atEvent_taken hp h ?_⟩
    · rw [hpath]
      exact if_pos (Lane.stampsSpent_of_max (hlast.trans hmax))
    · rw [hpath]
      have hspent : r.state.lanes[l].stampsSpent = false := Lane.stampsSpent_of_lt (hlast ▸ hlt)
      exact if_neg (by rw [hspent]; exact Bool.false_ne_true)
  · obtain ⟨hts, htrace, -, hseq, hlast, hset⟩ := s.windowUsed_frame l
    intro a n t0 t b dg g e
    have hdate : n.date latch = { t0, t, sequence := s.lanes[l].sequence + 1 } := by
      rw [Lane.date, hseq, hlast]; rfl
    have hissue : a.onLane l (Lane.issue (n.date latch)) =
        a.onLane l fun n => { n with sequence := s.lanes[l].sequence + 1, lastStamp := some t } := by rw [hdate]; rfl
    have hbound : (a.onLane l (Lane.issue (n.date latch))).bound latch = s.bound latch := by
      simp only [State.bound, State.onLane_ts, State.onLane_trace, hts, htrace, a]
    have hframe : e.trace.settings = s.trace.settings ∧ e.trace.dg = dg ∧ e.trace.interval = s.trace.interval := by
      have he : e = (a.onLane l (Lane.issue (n.date latch))).evaluate latch := by rw [hissue]
      rw [he, State.evaluate_eq, hbound]
      simp only [State.onLane_trace, htrace, State.inService, State.onLane_ts, hts, a]
      exact ⟨trivial, rfl, trivial⟩
    obtain ⟨heset, hedg, heinterval⟩ := hframe
    have hdated := State.dateStamp_eq (b := b) (e := e) (g := g) (s.ageLane_eq l) hdate
      (by rw [← hdate, hbound, hdate]; rfl) (by rw [← hdate, hissue]) (by rw [heset, hedg]; rfl)
    rw [hdated, State.countStamp, heinterval, sequence_wraps, hset]
    rfl

/-! ### Bringing a call up to an instant (R91) -/

theorem Call.endReached_of_phase {c : Call} (h : c.phase.endPending = false) (t : Nat) : c.endReached t = false := by
  rw [Call.endReached, h, Bool.false_and]

theorem Call.settled_of_meets {dg : Grade} {c : Call} {b : Bool} (h : dg.meets c.required = b) :
    c.settled dg = { c with phase := .settling, closeGrade := some dg, untracedFlag := some (!b) } := by rw [Call.settled, h]

section
variable {s : State} {i : Fin 64} {c : Call} (hc : s.slots[i] = some c)
include hc

theorem takeEnds_still {t : Nat} (h : c.endReached t = false) (n : Nat) : s.takeEnds i t n = s := by
  cases n with
  | zero => rfl
  | succ n => simp only [State.takeEnds, hc, h, Bool.false_eq_true, if_false]

theorem openWindowBy_still {t : Nat} (h : ¬ (c.phase = .call ∧ c.tSched ≤ t)) : s.openWindowBy i t = s := by
  simp only [State.openWindowBy, hc, if_neg h]

/-- A call that is not in CALL is brought up by the taking of the ends it has left. -/
theorem bringUp_of_not_call {t : Nat} (h : c.phase ≠ .call) : s.bringUp i t = s.takeEnds i t (c.holdMax - c.holdsUsed + 1) := by
  rw [State.bringUp, openWindowBy_still hc fun hp => h hp.1, State.takingsLeft, hc]
  rfl

/-- Bringing up takes nothing where T_sched and the end lie past the instant. -/
theorem bringUp_still {t : Nat} (hcall : ¬ (c.phase = .call ∧ c.tSched ≤ t)) (hend : c.endReached t = false) : s.bringUp i t = s := by
  rw [State.bringUp, openWindowBy_still hc hcall]
  exact takeEnds_still hc hend _

/-- A call in CALL whose T_sched the instant has reached opens its window, and its end is held against the instant (R136, R137). -/
theorem bringUp_opens {t : Nat} (hp : c.phase = .call) (ht : c.tSched ≤ t) : s.bringUp i t = (s.openWindow i c).bringUp i t := by
  have hslot : (s.openWindow i c).slots[i] = some (c.windowed s.draw).revised := State.commit_same _ i _
  have hphase : (c.windowed s.draw).revised.phase ≠ .call := nofun
  rw [bringUp_of_not_call hslot hphase, State.bringUp, State.openWindowBy, hc]
  simp only [if_pos (And.intro hp ht), State.takingsLeft, hslot]
  rfl

omit hc in
theorem closeOrHold_meets {dg : Grade} (hm : dg.meets c.required = true) : s.closeOrHold i c dg = s.commit i
    { c with phase := .settling, closeGrade := some dg, untracedFlag := some false } := by
  rw [State.closeOrHold, Call.closes, hm, Bool.true_or, if_pos rfl, if_pos rfl, Call.settled_of_meets hm]
  rfl

omit hc in
theorem closeOrHold_spent {dg : Grade} (hm : dg.meets c.required = false) (hspent : c.holdMax ≤ c.holdsUsed) :
    s.closeOrHold i c dg = (s.commit i
      { c with phase := .settling, closeGrade := some dg, untracedFlag := some true }).raise .auctionClosedUntraced := by
  rw [State.closeOrHold, Call.closes, hm, decide_eq_true hspent, Bool.or_true, if_pos rfl, if_neg Bool.false_ne_true,
    Call.settled_of_meets hm]
  rfl

omit hc in
theorem closeOrHold_held {dg : Grade} (hm : dg.meets c.required = false) (hleft : c.holdsUsed < c.holdMax) :
    s.closeOrHold i c dg = (s.commit i c.heldOn).raise .auctionTraceHold := by
  rw [State.closeOrHold, Call.closes, hm, decide_eq_false (Nat.not_le.2 hleft), Bool.or_false, if_neg Bool.false_ne_true]

/-- Bringing up takes nothing of a call whose window is still to open or whose end has been taken. -/
theorem bringUp_idle {t : Nat} (h : c.phase = .scheduled ∨ c.phase = .settling ∨ c.phase = .uncrossDue ∨ c.phase = .cancelled) :
    s.bringUp i t = s := by
  have hnot : c.phase ≠ .call ∧ c.phase.endPending = false := by
    obtain hp | hp | hp | hp := h <;> rw [hp] <;> exact ⟨nofun, rfl⟩
  exact bringUp_still hc (fun h => hnot.1 h.1) (Call.endReached_of_phase hnot.2 t)

/-- Bringing up takes nothing of a call in CALL before T_sched. -/
theorem bringUp_before_sched {t : Nat} (hp : c.phase = .call) (hlt : t < c.tSched) : s.bringUp i t = s := by
  refine bringUp_still hc (fun h => Nat.not_lt.2 h.2 hlt) (Call.endReached_of_phase ?_ t)
  rw [hp]
  rfl

section
variable {t e : Nat} (hphase : c.phase = .window ∨ c.phase = .extended ∨ c.phase = .traceHold) (he : c.tEnd = some e)
include hphase he

/-- Bringing up takes nothing before the end that stands. -/
theorem bringUp_before_end (hlt : t < e) : s.bringUp i t = s := by
  have hnot : c.phase ≠ .call := by obtain hp | hp | hp := hphase <;> rw [hp] <;> exact nofun
  refine bringUp_still hc (fun h => hnot h.1) (Bool.eq_false_iff.2 fun hr => ?_)
  obtain ⟨-, e', he', hle⟩ := (Call.endReached_iff t c).1 hr
  cases he.symm.trans he'
  omega

/-- An end that is reached is taken: where the call closes no other end is due, and where it is held the new end is held against the
instant again (R91, R143). -/
theorem bringUp_takes (hle : e ≤ t) :
    let v := s.evaluate s.ts.ns
    let g := v.trace.dg
    (g.meets c.required = true →
      s.bringUp i t = v.commit i { c with phase := .settling, closeGrade := some g, untracedFlag := some false }) ∧
    (g.meets c.required = false → c.holdMax ≤ c.holdsUsed →
      s.bringUp i t = (v.commit i { c with
        phase := .settling, closeGrade := some g, untracedFlag := some true }).raise .auctionClosedUntraced) ∧
    (g.meets c.required = false → c.holdsUsed < c.holdMax →
      s.bringUp i t = State.bringUp i t ((v.commit i { c with
        phase := .traceHold, tEnd := some (e + c.holdStep * 1000000), holdsUsed := c.holdsUsed + 1 }).raise .auctionTraceHold)) := by
  intro v g
  have hpend : c.phase.endPending = true := by obtain hp | hp | hp := hphase <;> rw [hp] <;> rfl
  have hnot : c.phase ≠ .call := fun h => by rw [h] at hpend; cases hpend
  have hr : c.endReached t = true := (Call.endReached_iff t c).2 ⟨hpend, e, he, hle⟩
  have htake : s.bringUp i t = (v.closeOrHold i c g).takeEnds i t (c.holdMax - c.holdsUsed) := by
    rw [bringUp_of_not_call hc hnot]
    simp only [State.takeEnds, hc, hr, if_true]
    rfl
  have hheld : c.heldOn = { c with
      phase := .traceHold, tEnd := some (e + c.holdStep * 1000000), holdsUsed := c.holdsUsed + 1 } := by
    rw [Call.heldOn, he]
    rfl
  refine ⟨fun hm => ?_, fun hm hspent => ?_, fun hm hleft => ?_⟩
  · rw [htake, closeOrHold_meets hm]
    exact takeEnds_still (State.commit_same v i _) rfl _
  · rw [htake, closeOrHold_spent hm hspent]
    refine takeEnds_still (c := Call.revised { c with phase := .settling, closeGrade := some g, untracedFlag := some true }) ?_ rfl _
    exact State.commit_same v i _
  · have hslot : ((v.commit i c.heldOn).raise .auctionTraceHold).slots[i] = some c.heldOn.revised := State.commit_same v i _
    have hphase' : c.heldOn.revised.phase ≠ .call := nofun
    have hleft' : c.holdMax - c.holdsUsed = c.heldOn.revised.holdMax - c.heldOn.revised.holdsUsed + 1 := by
      show c.holdMax - c.holdsUsed = c.holdMax - (c.holdsUsed + 1) + 1
      omega
    have hdone : s.bringUp i t = ((v.commit i c.heldOn).raise .auctionTraceHold).bringUp i t := by
      rw [htake, closeOrHold_held hm hleft, bringUp_of_not_call hslot hphase', hleft']
    rw [hdone, hheld]

end

end

/-! ### STAMP_KEYED (R90 to R95) -/

/-- Dating a stamp leaves the group map. -/
theorem State.dateStamp_groupMap (s : State) (l : Fin 16) (tArr : Nat) : (s.dateStamp l tArr).1.groupMap = s.groupMap := by
  rw [State.dateStamp_eq (s.ageLane_eq l) rfl rfl (State.evaluate_eq _ _) rfl]
  obtain ⟨-, -, hmap, -⟩ := s.windowUsed_frame l
  exact hmap

/-- The answer to a keyed stamp whose key is a key (R90, R95). -/
theorem stampKeyedBlock_ruled {l : Fin 16} {tArr : Nat} {b : List Byte} {s t : State} {a : Option RulingReport}
    (hkey : field 0 2 b ≤ 4095) (hlast : s.lanes[l].stampsSpent = false)
    (hr : (s.dateStamp l tArr).1.ruleKey (field 0 2 b) (s.dateStamp l tArr).2.1.time = (t, a)) :
    stampKeyedBlock (.lane l) tArr b s =
      (t, { code := .done, ind := { (s.dateStamp l tArr).2.2 with late := ruledLate a }
            body := .stampKeyed (s.dateStamp l tArr).2.1 a }) := by
  have hspent : ¬ s.lanes[l].stampsSpent = true := by rw [hlast]; exact Bool.false_ne_true
  rw [stampKeyedBlock]
  simp only [if_neg (Nat.not_lt.2 hkey), if_neg hspent, hr]

/-- Settles O37: the block's refusal, the unmapped and the mapped key; and the bringing up of a call by its phase. -/
theorem keyedStampIsAStampAndItsRuling : Obligations.KeyedStampIsAStampAndItsRuling := by
  refine ⟨fun dt l tag payload s r hp h => ?_, fun i t c s hc => ⟨fun hphase => ?_, fun hcall => ⟨fun hlt => ?_, fun hle => ?_⟩,
    fun e hphase he => ⟨fun hlt => ?_, fun hle => ?_⟩⟩⟩
  · obtain ⟨hpath, -, -, -, -, -, hstate⟩ := State.taken_on_lane h
    have hlast : r.state.lanes[l].lastStamp = s.lanes[l].lastStamp := by rw [hstate, State.onLane_same]; rfl
    have hmap : (r.state.dateStamp l r.instant).1.groupMap = s.groupMap := by
      rw [State.dateStamp_groupMap, hstate]; rfl
    refine ⟨fun hkey => atEvent_taken hp h (by rw [hpath]; exact if_pos hkey), fun hkey hlt => ?_⟩
    have hspent : r.state.lanes[l].stampsSpent = false := Lane.stampsSpent_of_lt (hlast ▸ hlt)
    refine ⟨fun hnone => atEvent_taken hp h ?_, fun i hi => ?_⟩
    · rw [hpath, stampKeyedBlock_ruled hkey hspent (by rw [State.ruleKey, hmap, hnone])]
      rfl
    · intro e c hc
      refine atEvent_taken hp h ?_
      rw [hpath, stampKeyedBlock_ruled hkey hspent (t := e.putCall i (c.counted _)) (by
        rw [State.ruleKey, hmap, hi]
        simp only [State.ruleStamp]
        rw [hc])]
      rfl
  · exact bringUp_idle hc hphase
  · exact bringUp_before_sched hc hcall hlt
  · exact bringUp_opens hc hcall hle
  · exact bringUp_before_end hc hphase he hlt
  · exact bringUp_takes hc hphase he hle

end Sys2Proof.Machine
end

section
/-! PROOFS. Addressing, the snapshot, subscriptions and the stages of a call (7.1 to 7.4, 7.9). -/

namespace Sys2Proof.Machine

/-! ### The search for an occupied slot (R118) -/

/-- A search through the slots in rising order finds the least one that satisfies the test. -/
theorem find?_finRange {n : Nat} {q : Fin n → Bool} {k : Fin n} (hk : q k = true) (hmin : ∀ j, q j = true → k ≤ j) :
    (List.finRange n).find? q = some k := by
  refine List.find?_eq_some_iff_getElem.2 ⟨hk, k.val, by simp, by simp, fun j hj => ?_⟩
  rw [List.getElem_finRange, Bool.not_eq_true']
  refine Bool.eq_false_iff.2 fun hq => ?_
  have := hmin _ hq
  exact absurd hj (by simpa [Fin.le_def] using this)

/-- The first occupied slot in an order of search is the one of least place in it. -/
theorem find?_order {order place : Fin 64 → Fin 64} (hinv : ∀ k, order (place k) = k) (hinj : ∀ k, place (order k) = k)
    {ok : Fin 64 → Bool} {i : Fin 64} (hi : ok i = true) (hmin : ∀ j, ok j = true → (place i).val ≤ (place j).val) :
    ((List.finRange 64).map order).find? ok = some i := by
  have hfound := find?_finRange (q := ok ∘ order) (k := place i) (by rw [Function.comp_apply, hinv, hi]) fun j hj => by
    have := hmin (order j) hj
    rw [hinj] at this
    exact this
  rw [List.find?_map, hfound, Option.map_some, hinv]

theorem nextOrder_find {c i : Fin 64} {ok : Fin 64 → Bool} (hi : ok i = true)
    (hmin : ∀ j, ok j = true → (i - c - 1).val ≤ (j - c - 1).val) : (nextOrder c).find? ok = some i :=
  find?_order (place := fun k => k - c - 1) (fun k => by abel) (fun k => by abel) hi hmin

theorem prevOrder_find {c i : Fin 64} {ok : Fin 64 → Bool} (hi : ok i = true)
    (hmin : ∀ j, ok j = true → (c - 1 - i).val ≤ (c - 1 - j).val) : (prevOrder c).find? ok = some i :=
  find?_order (place := fun k => c - 1 - k) (fun k => by abel) (fun k => by abel) hi hmin

/-! ### Forms that are resolved, and the requests that carry them (R117, R118) -/

theorem resolve_slot (p : Path) (s : State) (i : Fin 64) : s.resolve p (.slot i.val) = .ok (i, false, s) := dif_pos i.isLt

theorem resolve_key (p : Path) (s : State) {n : Nat} (h : n < 4096) :
    s.resolve p (.key n) = match mapLookup n s.groupMap with
      | some i => .ok (i, false, s)
      | none => .error .noRecord := if_neg (by omega)

theorem resolve_next {p : Path} {s : State} {x : Option (Fin 64)} (h : (nextOrder (s.cursorOf p)).find? s.occupied = x) :
    s.resolve p .next = x.elim (.error .noRecord) fun i => .ok (i, decide (i ≤ s.cursorOf p), s.moveCursor p i) := by
  subst h
  rw [State.resolve]
  cases (nextOrder (s.cursorOf p)).find? s.occupied <;> rfl

theorem resolve_prev {p : Path} {s : State} {x : Option (Fin 64)} (h : (prevOrder (s.cursorOf p)).find? s.occupied = x) :
    s.resolve p .prev = x.elim (.error .noRecord) fun i => .ok (i, decide (s.cursorOf p ≤ i), s.moveCursor p i) := by
  subst h
  rw [State.resolve]
  cases (prevOrder (s.cursorOf p)).find? s.occupied <;> rfl

theorem find?_occupied_none {s : State} (h : ∀ j : Fin 64, s.slots[j] = none) (order : List (Fin 64)) : order.find? s.occupied = none :=
  List.find?_eq_none.2 fun j _ => by rw [State.occupied, h j]; exact Bool.false_ne_true

/-- The requests whose addressing form stands first in their payload. -/
theorem Kind.block_addressed {k : Kind}
    (h : k ∈ [Kind.queryAuction, .subscribe, .unsubscribe, .reschedule, .extend, .cancel, .retire]) (p : Path) (n : Nat) (b : List Byte) :
    ∃ act, k.block p n b = addressed 0 p b act := by
  simp only [List.mem_cons, List.not_mem_nil, or_false] at h
  obtain rfl | rfl | rfl | rfl | rfl | rfl | rfl := h <;> exact ⟨_, rfl⟩

theorem Kind.not_systemReset_of_addressed {k : Kind}
    (h : k ∈ [Kind.queryAuction, .subscribe, .unsubscribe, .reschedule, .extend, .cancel, .retire]) : k ≠ .systemReset := by
  rintro rfl
  exact absurd h (by decide)

/-- A request refused at resolution (R117): a taken request whose block answers `code`. -/
theorem exec_refused_at_resolution {c : Instr} {k : Kind} {src : Source} {s : State} {r : Taken} {code : Code} (hp : s.power = .running)
    (hc : c.request = some (src, k))
    (hk : k ∈ [Kind.queryAuction, .subscribe, .unsubscribe, .reschedule, .extend, .cancel, .retire])
    (h : (s.elapse c.dt).taken k src = some r)
    (hact : ∀ act, addressed 0 r.path r.payload act r.state = refuse code r.state) :
    exec c s = .next (r.reply k (.plain code) r.state) := by
  obtain ⟨act, hblock⟩ := Kind.block_addressed hk r.path r.instant r.payload
  rw [exec_taking hc (.inl (Kind.not_systemReset_of_addressed hk))]
  exact atEvent_taken hp h (by rw [hblock, hact]; rfl)

/-- Settles O43: the forms that name a slot, the searches, the cursor, and the refusals at resolution. -/
theorem addressingFormsResolveOrAreRefused : Obligations.AddressingFormsResolveOrAreRefused := by
  refine ⟨fun p s n => ⟨fun i hi => ?_, fun hge => ?_, fun hge => ?_, fun hlt hnone => ?_, fun i hlt hi => ?_⟩,
    fun p s => ⟨fun hfree => ⟨?_, ?_⟩, fun i hi => ⟨fun hmin => ?_, fun hmin => ?_⟩⟩, fun i s => ⟨rfl, fun l => rfl⟩,
    fun c k src s r hp hc hk h => ⟨fun hnone => ?_, fun f code hf hcode => ?_⟩⟩
  · rw [hi]; exact resolve_slot p s i
  · exact dif_neg (Nat.not_lt.2 hge)
  · exact if_pos (by omega)
  · rw [resolve_key p s hlt, hnone]
  · rw [resolve_key p s hlt, hi]
  · exact resolve_next (find?_occupied_none hfree _)
  · exact resolve_prev (find?_occupied_none hfree _)
  · exact resolve_next (nextOrder_find hi hmin)
  · exact resolve_prev (prevOrder_find hi hmin)
  · exact exec_refused_at_resolution hp hc hk h fun act => by rw [addressed, hnone]
  · exact exec_refused_at_resolution hp hc hk h fun act => by rw [addressed, hf]; simp only [hcode]

end Sys2Proof.Machine
end

section
/-! PROOFS. What the requests that resolve a form do to the slot they name (7.4 to 7.9). -/

namespace Sys2Proof.Machine

/-! ### A request that has resolved its form (R117) -/

theorem TakenFrom.trans {s t u : State} (h : TakenFrom s t) (h' : TakenFrom t u) : TakenFrom s u where
  ts := h'.ts.trans h.ts
  refs := h'.refs.trans h.refs
  trace := h'.trace.trans h.trace
  slots := h'.slots.trans h.slots
  groupMap := h'.groupMap.trans h.groupMap
  expiry := h'.expiry.trans h.expiry
  drawCount := h'.drawCount.trans h.drawCount
  retained := h'.retained.trans h.retained
  limits := h'.limits.trans h.limits
  alerts := h'.alerts.trans h.alerts
  mask := h'.mask.trans h.mask

theorem TakenFrom.refl (s : State) : TakenFrom s s := ⟨rfl, rfl, rfl, rfl, rfl, rfl, rfl, rfl, rfl, rfl, rfl⟩

theorem TakenFrom.moveCursor (s : State) (p : Path) (i : Fin 64) : TakenFrom s (s.moveCursor p i) := by
  cases p <;> exact ⟨rfl, rfl, rfl, rfl, rfl, rfl, rfl, rfl, rfl, rfl, rfl⟩

/-- The form of a request that has resolved it. -/
theorem Taken.resolved_eq_some {r : Taken} {off : Nat} {x : Fin 64 × Bool × State} (h : r.resolved off = some x) :
    ∃ f, decodeForm off r.payload = some f ∧ r.state.resolve r.path f = .ok x := by
  unfold Taken.resolved at h
  split at h
  · cases h
  · next f hf =>
    split at h
    · next y hy => cases h; exact ⟨f, hf, hy⟩
    · cases h

/-- Resolving a form moves the path's cursor at most. -/
theorem Taken.resolved_from {r : Taken} {off : Nat} {i : Fin 64} {wrap : Bool} {e : State} (h : r.resolved off = some (i, wrap, e)) :
    TakenFrom r.state e := by
  obtain ⟨f, -, hres⟩ := Taken.resolved_eq_some h
  obtain ⟨rfl, -⟩ | rfl := resolve_cases hres
  · exact .refl _
  · exact .moveCursor _ _ _

theorem addressed_of_resolved {r : Taken} {off : Nat} {i : Fin 64} {wrap : Bool} {e t : State} {a : Answer}
    (h : r.resolved off = some (i, wrap, e)) {act : Fin 64 → State → State × Answer} (hact : act i e = (t, a)) :
    addressed off r.path r.payload act r.state = (t, a.withWrap wrap) := by
  obtain ⟨f, hf, hres⟩ := Taken.resolved_eq_some h
  rw [addressed, hf]
  simp only [hres, hact]

section
variable {s : State} {dt : Nat} {k : Kind} {src : Source} {r : Taken} (hp : s.power = .running)
  (h : (s.elapse dt).taken k src = some r) {off : Nat} {i : Fin 64} {wrap : Bool} {e : State} (hres : r.resolved off = some (i, wrap, e))
include hp h hres

/-- A request whose form is resolved is answered by its entry's own work on the slot found, with WRAP as the resolution set it. -/
theorem atEvent_resolved {blk : Block} {act : Fin 64 → State → State × Answer} {t : State} {a : Answer}
    (hblk : blk r.path r.instant r.payload r.state = addressed off r.path r.payload act r.state) (hact : act i e = (t, a)) :
    s.atEvent dt (takeRequest k src blk) = .next (r.reply k (a.withWrap wrap) t) :=
  atEvent_taken hp h (hblk.trans (addressed_of_resolved hres hact))

omit hp in
/-- What a request finds where its form is resolved: the machine at its instant, but for the path's own entries and cursor. -/
theorem taken_and_resolved : TakenFrom (s.elapse dt) e := (State.taken_from h).trans (Taken.resolved_from hres)

omit hp in
theorem slot_of_resolved {j : Fin 64} {x : Option Call} (hj : s.slots[j] = x) : e.slots[j] = x := by
  rw [(taken_and_resolved h hres).slots]
  exact hj

end

/-! ### The keys of a slot (R116, R126) -/

theorem keysHolding_eq (i : Fin 64) (m : List (Nat × Fin 64)) : keysHolding i m = (m.filter fun x => x.2 = i).length := by
  rw [keysHolding, List.countP_eq_length_filter]
  refine congrArg List.length (List.filter_congr fun x _ => ?_)
  rw [Bool.eq_iff_iff, beq_iff_eq, decide_eq_true_eq]

theorem mapEraseSlot_eq (i : Fin 64) (m : List (Nat × Fin 64)) : mapEraseSlot i m = m.filter fun x => x.2 ≠ i := by
  refine List.filter_congr fun x _ => ?_
  rw [Bool.eq_iff_iff, bne_iff_ne, decide_eq_true_eq]

/-! ### QUERY_AUCTION (R120) -/

/-- What a snapshot of a slot tells (R120, R149). -/
theorem State.snapshot_of_some {s : State} {i : Fin 64} {c : Call} (hc : s.slots[i] = some c) :
    (s.snapshot i).call = some c.revealed := by rw [State.snapshot, hc]; rfl

section
variable {i : Fin 64} {tEnd' : Option Nat} {draw' : Option (BitVec 32)} {s : State} {c : Call} (hc : s.slots[i] = some c)
  (htold : c.phase.endTold = false)

theorem State.withEnd_same : (s.withEnd i tEnd' draw').slots[i] = s.slots[i].map fun c => { c with tEnd := tEnd', draw := draw' } :=
  Vector.getElem_set_self _

theorem State.withEnd_other {j : Fin 64} (h : j ≠ i) : (s.withEnd i tEnd' draw').slots[j] = s.slots[j] :=
  Vector.getElem_set_ne i.isLt j.isLt fun e => h (Fin.ext e.symm)

theorem State.withEnd_occupied : (s.withEnd i tEnd' draw').occupied = s.occupied := by
  funext j
  by_cases h : j = i
  · subst h
    rw [State.occupied, State.withEnd_same, Option.isSome_map]
    rfl
  · rw [State.occupied, State.withEnd_other h]
    rfl

theorem State.withEnd_moveCursor (p : Path) (j : Fin 64) :
    (s.withEnd i tEnd' draw').moveCursor p j = (s.moveCursor p j).withEnd i tEnd' draw' := by
  cases p <;> rfl

/-- The resolution of a form does not see an end (R117, R118). -/
theorem State.withEnd_resolve (p : Path) (f : Form) :
    (s.withEnd i tEnd' draw').resolve p f = (s.resolve p f).map fun x => (x.1, x.2.1, x.2.2.withEnd i tEnd' draw') := by
  have hcursor : (s.withEnd i tEnd' draw').cursorOf p = s.cursorOf p := by cases p <;> rfl
  cases f with
  | slot n =>
    by_cases h : n < 64
    · simp only [State.resolve, dif_pos h]; rfl
    · simp only [State.resolve, dif_neg h]; rfl
  | key k =>
    by_cases h : 4095 < k
    · simp only [State.resolve, if_pos h]; rfl
    · simp only [State.resolve, if_neg h]
      show (match mapLookup k s.groupMap with | some i => _ | none => _) = _
      cases mapLookup k s.groupMap <;> rfl
  | next =>
    rw [resolve_next rfl, resolve_next rfl, State.withEnd_occupied, hcursor]
    cases (nextOrder (s.cursorOf p)).find? s.occupied with
    | none => rfl
    | some j => simp only [Option.elim_some, State.withEnd_moveCursor]; rfl
  | prev =>
    rw [resolve_prev rfl, resolve_prev rfl, State.withEnd_occupied, hcursor]
    cases (prevOrder (s.cursorOf p)).find? s.occupied with
    | none => rfl
    | some j => simp only [Option.elim_some, State.withEnd_moveCursor]; rfl

include hc htold

/-- A snapshot does not tell two ends apart that have not been taken (R149). -/
theorem State.withEnd_snapshot (j : Fin 64) : (s.withEnd i tEnd' draw').snapshot j = s.snapshot j := by
  by_cases h : j = i
  · subst h
    have hcall : (s.withEnd j tEnd' draw').slots[j].map Call.revealed = s.slots[j].map Call.revealed := by
      rw [State.withEnd_same, hc, Option.map_some, Option.map_some, Option.map_some, Call.revealed_of_not_told htold,
        Call.revealed_of_not_told (c := { c with tEnd := tEnd', draw := draw' }) htold]
    rw [State.snapshot, hcall]
    rfl
  · rw [State.snapshot, State.withEnd_other h]
    rfl

theorem withEnd_queryAuctionBlock (p : Path) (n : Nat) (b : List Byte) :
    queryAuctionBlock p n b (s.withEnd i tEnd' draw') =
      ((queryAuctionBlock p n b s).1.withEnd i tEnd' draw', (queryAuctionBlock p n b s).2) := by
  simp only [queryAuctionBlock, addressed]
  cases decodeForm 0 b with
  | none => rfl
  | some f =>
    simp only [State.withEnd_resolve]
    cases hres : s.resolve p f with
    | error code => rfl
    | ok x =>
      obtain ⟨j, wrap, u⟩ := x
      have hslots : u.slots[i] = some c := by
        obtain ⟨rfl, -⟩ | rfl := resolve_cases hres
        · exact hc
        · exact (congrArg (·[i]) (TakenFrom.moveCursor s p j).slots).trans hc
      simp only [Except.map, State.withEnd_snapshot hslots htold]

end

theorem State.withEnd_onLane {i : Fin 64} {tEnd' : Option Nat} {draw' : Option (BitVec 32)} (s : State) (l : Fin 16) (f : Lane → Lane) :
    (s.withEnd i tEnd' draw').onLane l f = (s.onLane l f).withEnd i tEnd' draw' := rfl

/-- The head of a queue that may not be taken waits (R71). -/
theorem takeHead_waits {l : Fin 16} {s : State} (h : ¬ (s.lanes[l].up = true ∧ s.lanes[l].replies < 8))
    (answer : Request → State → State × Answer) : takeHead l answer s = s := by
  obtain he | ⟨q, rest, r, -, hup, hn, -⟩ := takeHead_cases l answer s
  · exact he
  · exact absurd ⟨hup, hn⟩ h

theorem withEnd_laneFrame {i : Fin 64} {tEnd' : Option Nat} {draw' : Option (BitVec 32)} {l : Fin 16} {payload : List Byte}
    {act : Nat → State → State} {s : State} (h : ∀ latch, act latch (s.withEnd i tEnd' draw') = (act latch s).withEnd i tEnd' draw') :
    laneFrame l payload act (s.withEnd i tEnd' draw') = (laneFrame l payload act s).withEnd i tEnd' draw' := by
  have hlane : (s.withEnd i tEnd' draw').lanes = s.lanes := rfl
  cases hup : s.lanes[l].up with
  | false => simp only [laneFrame, hlane, hup]
  | true =>
    cases hl : s.lanes[l].rxLatch with
    | none => simp only [laneFrame, hlane, hup, hl]
    | some latch =>
      simp only [laneFrame, hlane, hup, hl, h, State.withEnd_onLane]
      exact (apply_ite (State.withEnd i tEnd' draw') _ _ _).symm

theorem withEnd_opsWrite {i : Fin 64} {tEnd' : Option Nat} {draw' : Option (BitVec 32)} (payload : List Byte) {act : State → State}
    {s : State}
    (h : ∀ o : OpsPort, act (State.withEnd i tEnd' draw' { s with ops := o }) = (act { s with ops := o }).withEnd i tEnd' draw') :
    opsWrite payload act (s.withEnd i tEnd' draw') = (opsWrite payload act s).withEnd i tEnd' draw' := by
  have hops : (s.withEnd i tEnd' draw').ops = s.ops := rfl
  simp only [opsWrite, hops]
  split
  · split
    · rfl
    · split
      · rfl
      · exact h (s.ops.endWrite .taken)
  · rfl

/-! An answer that does not see an end is taken as if the end were another. -/

section
variable {i : Fin 64} {tEnd' : Option Nat} {draw' : Option (BitVec 32)} {c : Call} {answer : Request → State → State × Answer}
  (hanswer : ∀ q u, u.slots[i] = some c →
    answer q (u.withEnd i tEnd' draw') = ((answer q u).1.withEnd i tEnd' draw', (answer q u).2))
  {s : State} (hc : s.slots[i] = some c)
include hanswer hc

theorem withEnd_takeHead (l : Fin 16) :
    takeHead l answer (s.withEnd i tEnd' draw') = (takeHead l answer s).withEnd i tEnd' draw' := by
  cases hq : s.lanes[l].queue with
  | nil => rw [takeHead_empty hq, takeHead_empty (s := s.withEnd i tEnd' draw') hq]
  | cons q rest =>
    by_cases hcond : s.lanes[l].up = true ∧ s.lanes[l].replies < 8
    · have hcommute := hanswer q (s.onLane l fun n => { n with queue := rest }) hc
      rw [takeHead_taken hq hcond.1 hcond.2, takeHead_taken (s := s.withEnd i tEnd' draw') hq hcond.1 hcond.2,
        State.withEnd_onLane, hcommute, State.withEnd_onLane]
    · rw [takeHead_waits hcond, takeHead_waits (s := s.withEnd i tEnd' draw') hcond]

theorem withEnd_requestEnds (l : Fin 16) (kind : Byte) (tag : Tag) (payload : List Byte) :
    requestEnds l kind tag payload answer (s.withEnd i tEnd' draw') =
      (requestEnds l kind tag payload answer s).withEnd i tEnd' draw' := by
  refine withEnd_laneFrame fun latch => ?_
  cases hq : s.lanes[l].queue with
  | cons q rest =>
    have hq' : (s.withEnd i tEnd' draw').lanes[l].queue = q :: rest := hq
    simp only [hq', List.isEmpty_cons, Bool.false_eq_true, if_false, State.withEnd_onLane]
  | nil =>
    have hq' : (s.withEnd i tEnd' draw').lanes[l].queue = [] := hq
    simp only [hq', List.isEmpty_nil, if_true, State.withEnd_onLane]
    exact withEnd_takeHead hanswer (s := s.onLane l _) hc l

end

/-- The answer to a QUERY_AUCTION on a lane does not see an end that has not been taken. -/
theorem withEnd_laneAnswer {i : Fin 64} {tEnd' : Option Nat} {draw' : Option (BitVec 32)} {c : Call} {u : State}
    (hc : u.slots[i] = some c) (htold : c.phase.endTold = false) (l : Fin 16) (q : Request) :
    laneAnswer .queryAuction queryAuctionBlock l q (u.withEnd i tEnd' draw') =
      ((laneAnswer .queryAuction queryAuctionBlock l q u).1.withEnd i tEnd' draw',
       (laneAnswer .queryAuction queryAuctionBlock l q u).2) := by
  have hroles : (u.withEnd i tEnd' draw').lanes[l].settings.roles = u.lanes[l].settings.roles := rfl
  simp only [laneAnswer, hroles, withEnd_queryAuctionBlock hc htold]
  split
  · rfl
  · split <;> rfl

theorem withEnd_opsAnswer {i : Fin 64} {tEnd' : Option Nat} {draw' : Option (BitVec 32)} {c : Call} {u : State}
    (hc : u.slots[i] = some c) (htold : c.phase.endTold = false) (payload : List Byte) :
    opsAnswer .queryAuction payload queryAuctionBlock (u.withEnd i tEnd' draw') =
      ((opsAnswer .queryAuction payload queryAuctionBlock u).1.withEnd i tEnd' draw',
       (opsAnswer .queryAuction payload queryAuctionBlock u).2) := by
  have hnow : (u.withEnd i tEnd' draw').now = u.now := rfl
  simp only [opsAnswer, hnow, withEnd_queryAuctionBlock hc htold]
  split
  · rfl
  · split <;> rfl

/-- A QUERY_AUCTION is taken as if an end that has not been taken were another (R149). -/
theorem withEnd_takeRequest {i : Fin 64} {tEnd' : Option Nat} {draw' : Option (BitVec 32)} {c : Call} {u : State}
    (hc : u.slots[i] = some c) (htold : c.phase.endTold = false) (src : Source) :
    takeRequest .queryAuction src queryAuctionBlock (u.withEnd i tEnd' draw') =
      (takeRequest .queryAuction src queryAuctionBlock u).withEnd i tEnd' draw' := by
  cases src with
  | lane l tag payload =>
    exact withEnd_requestEnds (fun q v hv => withEnd_laneAnswer hv htold l q) hc l _ tag payload
  | ops tag payload =>
    refine withEnd_opsWrite payload (act := fun v => State.holdReply _ tag (opsAnswer .queryAuction payload queryAuctionBlock v))
      fun o => ?_
    rw [withEnd_opsAnswer (u := { u with ops := o }) hc htold]
    rfl

/-! ### SUBSCRIBE and UNSUBSCRIBE (R129) -/

theorem laneBit_getLsbD (l m : Fin 16) : (laneBit l).getLsbD m = decide (m = l) := by
  revert l m
  decide

theorem addLane_getLsbD (set : LaneSet) (l m : Fin 16) :
    (addLane set l).getLsbD m = if m = l then true else set.getLsbD m := by
  rw [addLane, BitVec.getLsbD_or, laneBit_getLsbD]
  split <;> simp [*]

theorem dropLane_getLsbD (set : LaneSet) (l m : Fin 16) :
    (dropLane set l).getLsbD m = if m = l then false else set.getLsbD m := by
  rw [dropLane, BitVec.getLsbD_and, BitVec.getLsbD_not, laneBit_getLsbD]
  split <;> simp [*]

/-- The request's own lane, or the one that the port names (R129). -/
theorem memberLane_of {p : Path} {b : List Byte} {l : Fin 16} (h : p = .lane l ∨ p = .ops ∧ field 3 1 b = l.val) :
    memberLane p b = some l := by
  obtain rfl | ⟨rfl, hl⟩ := h
  · rfl
  · exact decodeLane_of_lt hl

/-- What a change of membership does on the slot that its form names (R129). -/
theorem membership_taken {s : State} {dt : Nat} {k : Kind} {src : Source} {r : Taken} {i : Fin 64} {wrap : Bool} {e : State}
    (hp : s.power = .running) (h : (s.elapse dt).taken k src = some r) (hres : r.resolved 0 = some (i, wrap, e))
    (change : LaneSet → Fin 16 → LaneSet) :
    let run := s.atEvent dt (takeRequest k src (membership change))
    (r.path = .ops → 16 ≤ field 3 1 r.payload → run = .next (r.reply k ((Answer.plain .range).withWrap wrap) e)) ∧
    ∀ l : Fin 16, r.path = .lane l ∨ r.path = .ops ∧ field 3 1 r.payload = l.val →
      (s.slots[i] = none → run = .next (r.reply k ((Answer.plain .wrongPhase).withWrap wrap) e)) ∧
      ∀ c, s.slots[i] = some c → run = .next (r.reply k (.doneWrap wrap (.revision c.revision))
        { e with slots := e.slots.set i (some { c with notices := change c.notices l }) }) := by
  refine ⟨fun hops hge => atEvent_resolved hp h hres rfl ?_,
    fun l hl => ⟨fun hfree => atEvent_resolved hp h hres rfl ?_, fun c hc =>
      atEvent_resolved (a := .done (.revision c.revision)) hp h hres rfl ?_⟩⟩
  · have hnone : memberLane r.path r.payload = none := by rw [hops]; exact decodeLane_of_ge hge
    simp only [hnone]
    rfl
  · simp only [memberLane_of hl, slot_of_resolved h hres hfree]
    rfl
  · simp only [memberLane_of hl, slot_of_resolved h hres hc]
    rfl

/-- Settles O44: the snapshot, its blindness to an end that has not been taken, and a subscription. -/
theorem queriesAndSubscriptions : Obligations.QueriesAndSubscriptions := by
  refine ⟨fun dt src s e r i wrap hp h hres => ?_, fun dt src s t i c tEnd' draw' hc htold hrun => ?_,
    fun dt src join s e r i wrap hp => ?_⟩
  · refine ⟨e.snapshot i, atEvent_resolved (a := .done (.snapshot (e.snapshot i))) hp h hres rfl rfl, rfl, ?_, fun hfree => ?_,
      fun c hc => ?_⟩
    · show keysHolding i e.groupMap = _
      rw [(taken_and_resolved h hres).groupMap]
      exact keysHolding_eq i _
    · rw [State.snapshot, slot_of_resolved h hres hfree]
      rfl
    · rw [State.snapshot_of_some (slot_of_resolved h hres hc)]
      exact ⟨fun ht => congrArg some (Call.revealed_of_told ht), fun ht => congrArg some (Call.revealed_of_not_told ht)⟩
  · by_cases hp : s.power = .running
    · have ht : takeRequest .queryAuction src queryAuctionBlock (s.elapse dt) = t := by
        have := (atEvent_running hp dt _).symm.trans hrun
        cases this
        rfl
      rw [← ht]
      exact atEvent_next (s := s.withEnd i tEnd' draw') hp (withEnd_takeRequest (u := s.elapse dt) hc htold src)
    · have ht : s = t := by
        have := (atEvent_still hp dt _).symm.trans hrun
        cases this
        rfl
      rw [← ht]
      exact atEvent_still (s := s.withEnd i tEnd' draw') hp dt _
  · cases join with
    | true =>
      intro k x h hres
      obtain ⟨hrange, hmember⟩ := membership_taken hp h hres addLane
      refine ⟨hrange, fun l hl => ⟨(hmember l hl).1, fun c hc => ⟨_, (hmember l hl).2 c hc, addLane_getLsbD _ l⟩⟩⟩
    | false =>
      intro k x h hres
      obtain ⟨hrange, hmember⟩ := membership_taken hp h hres dropLane
      refine ⟨hrange, fun l hl => ⟨(hmember l hl).1, fun c hc => ⟨_, (hmember l hl).2 c hc, dropLane_getLsbD _ l⟩⟩⟩

end Sys2Proof.Machine
end

section
/-! PROOFS. Stages of a call, and CANCEL, RETIRE, MAP_KEY and UNMAP_KEY (7.1, 7.7, 7.8). -/

namespace Sys2Proof.Machine

/-! ### A stage (R79, R115, R131, R147) -/

/-- A notice to a lane that is not in the set, or that is DOWN, changes nothing; to another it joins or is counted lost (R79). -/
theorem handNotice_lane_eq (set : LaneSet) (f : TxFrame) (s : State) (l : Fin 16) :
    (set.getLsbD l = false ∨ s.lanes[l].up = false → (s.handNotice set f).lanes[l] = s.lanes[l]) ∧
    (set.getLsbD l = true → s.lanes[l].up = true →
      (s.lanes[l].notices < 8 → (s.handNotice set f).lanes[l] = { s.lanes[l] with tx := s.lanes[l].tx ++ [f] }) ∧
      (8 ≤ s.lanes[l].notices → (s.handNotice set f).lanes[l] = { s.lanes[l] with counts :=
        { s.lanes[l].counts with noticesLost := min 65535 (s.lanes[l].counts.noticesLost + 1) } })) := by
  rw [handNotice_lane]
  refine ⟨fun h => ?_, fun hset hup => ⟨fun hlt => ?_, fun hge => ?_⟩⟩
  · obtain hset | hup := h
    · exact if_neg (by rw [hset]; exact Bool.false_ne_true)
    · have hstill : s.lanes[l].placeNotice f = s.lanes[l] := if_neg (by rw [hup]; exact Bool.false_ne_true)
      rw [hstill, ite_self]
  · rw [if_pos hset, Lane.placeNotice, if_pos hup]
    exact if_pos hlt
  · rw [if_pos hset, Lane.placeNotice, if_pos hup]
    exact if_neg (Nat.not_lt.2 hge)

/-- Settles O48: a stage's revision, its entry by its phase, and its notices lane by lane. -/
theorem everyStageRevisesRefilesAndNotifies : Obligations.EveryStageRevisesRefilesAndNotifies := by
  intro i c s t n due
  have hdue : due = c.revised.dueTime s.ops.limits := by
    show expiryOf i (s.commit i c).expiry = _
    rw [State.commit_expiry, expiryOf_refile_same]
  have hphase : ∀ {x : Option Nat}, c.revised.dueTime s.ops.limits = x → due = x := fun h => hdue.trans h
  refine ⟨rfl, fun hp => hphase ?_, fun hp => hphase ?_, fun hp => hphase ?_, fun e hp he => hphase ?_, fun hp => hphase ?_,
    fun j hj => ?_, fun l => handNotice_lane_eq c.notices n _ l⟩
  · simp only [Call.dueTime, Call.revised, hp]
  · simp only [Call.dueTime, Call.revised, hp]
  · obtain hp | hp | hp := hp <;> simp only [Call.dueTime, Call.revised, hp]
  · simp only [Call.dueTime, Call.revised, hp, he, Option.map_some]
  · obtain hp | hp := hp <;> simp only [Call.dueTime, Call.revised, hp]
  · show expiryOf j (s.commit i c).expiry = _
    rw [State.commit_expiry, expiryOf_refile_other hj]

/-! ### The group map's readings (R116, R127, R128) -/

theorem mapLookup_mapErase (k j : Nat) (m : List (Nat × Fin 64)) :
    mapLookup j (mapErase k m) = if j = k then none else mapLookup j m := by
  rw [mapLookup, mapErase, List.find?_filter]
  split
  · next h =>
    subst h
    rw [Option.map_eq_none_iff, List.find?_eq_none]
    intro x _
    simp
  · next h =>
    refine congrArg _ (List.find?_congr fun x _ => ?_)
    rw [Bool.eq_iff_iff, decide_eq_true_eq, bne_iff_ne, beq_iff_eq]
    refine ⟨fun hx => hx.2, fun hx => ⟨fun hk => h (hx ▸ hk), hx⟩⟩

theorem mapLookup_mapInsert (k j : Nat) (i : Fin 64) (m : List (Nat × Fin 64)) :
    mapLookup j (mapInsert k i m) = if j = k then some i else mapLookup j m := by
  split
  · next h => rw [h, mapLookup_mapInsert_same]
  · next h => rw [mapLookup_mapInsert_other h]

/-- A key is held where the slot it is mapped to is in a phase that holds keys (R121, R127). -/
theorem State.keyHeld_eq_some {s : State} {k : Nat} {j : Fin 64} {c : Call} (hk : mapLookup k s.groupMap = some j)
    (hc : s.slots[j] = some c) (hheld : c.phase.holdsKeys = true) : s.keyHeld k = some j := by
  rw [State.keyHeld, hk, Option.filter_some, hc]
  exact if_pos hheld

theorem State.keyHeld_cases {s : State} {k : Nat} {j : Fin 64} (h : s.keyHeld k = some j) :
    mapLookup k s.groupMap = some j ∧ ∃ c, s.slots[j] = some c ∧ c.phase.holdsKeys = true := by
  rw [State.keyHeld, Option.filter_eq_some_iff] at h
  refine ⟨h.1, ?_⟩
  have hany := h.2
  rw [Option.any_eq_true] at hany
  exact hany

theorem Phase.due_iff (p : Phase) : p.due = true ↔ p ≠ .uncrossDue ∧ p ≠ .cancelled := by
  cases p <;> decide

theorem State.mayTakeKeys_iff {s : State} {i : Fin 64} :
    s.mayTakeKeys i = true ↔ ∃ c, s.slots[i] = some c ∧ c.phase ≠ .uncrossDue ∧ c.phase ≠ .cancelled := by
  rw [State.mayTakeKeys, Option.any_eq_true]
  exact exists_congr fun c => and_congr_right fun _ => c.phase.due_iff

/-- A MAP_KEY whose form is resolved (R127). -/
theorem mapKeyBlock_eq {p : Path} {n : Nat} {b : List Byte} (h : field 0 2 b < 4096) (s : State) :
    mapKeyBlock p n b s = addressed 2 p b (fun i s =>
      if !s.mayTakeKeys i then refuse .wrongPhase s
      else
        match (s.keyHeld (field 0 2 b)).filter fun j => j != i with
        | some j => (s, { code := .conflict, ind := .clear, body := .heldSlot (some j) })
        | none => (s.mapKey (field 0 2 b) i, .done (.heldSlot (mapLookup (field 0 2 b) s.groupMap)))) s :=
  if_neg (by omega)

/-! ### O47 -/

theorem Phase.due_eq_false {p : Phase} (h : p = .uncrossDue ∨ p = .cancelled) : p.due = false := by
  obtain rfl | rfl := h <;> rfl

section
variable {s : State} {dt : Nat} {src : Source} {r : Taken} {i : Fin 64} {wrap : Bool} {e : State} (hp : s.power = .running)
include hp

/-- CANCEL of a slot that is not FREE (R125). -/
theorem exec_cancel_of_some (hres : r.resolved 0 = some (i, wrap, e)) {c : Call} (hc : s.slots[i] = some c)
    (h : (s.elapse dt).taken .cancel src = some r) :
    (c.phase.due = false → exec (.cancel dt src) s = .next (r.reply .cancel ((Answer.plain .wrongPhase).withWrap wrap) e)) ∧
    (c.phase.due = true → exec (.cancel dt src) s = .next (r.reply .cancel (.doneWrap wrap (.revision (c.revision + 1)))
      (e.commit i (c.cancelledBy .request)))) := by
  refine ⟨fun hdue => atEvent_resolved hp h hres rfl ?_,
    fun hdue => atEvent_resolved (a := .done (.revision c.revised.revision)) hp h hres rfl ?_⟩
  · simp only [slot_of_resolved h hres hc, hdue]
    rfl
  · simp only [slot_of_resolved h hres hc, hdue, if_true]

/-- RETIRE of a slot that is not FREE (R126). -/
theorem exec_retire_of_some (hres : r.resolved 0 = some (i, wrap, e)) {c : Call} (hc : s.slots[i] = some c)
    (h : (s.elapse dt).taken .retire src = some r) :
    (c.phase.due = true → exec (.retire dt src) s = .next (r.reply .retire ((Answer.plain .wrongPhase).withWrap wrap) e)) ∧
    (c.phase.due = false → exec (.retire dt src) s = .next (r.reply .retire
      (.doneWrap wrap (.unmapped (s.groupMap.filter fun x => x.2 = i).length))
      { e with slots := e.slots.set i none, groupMap := s.groupMap.filter fun x => x.2 ≠ i })) := by
  refine ⟨fun hdue => atEvent_resolved hp h hres rfl ?_,
    fun hdue => atEvent_resolved (a := .done (.unmapped (s.groupMap.filter fun x : Nat × Fin 64 => x.2 = i).length)) hp h hres rfl ?_⟩
  · simp only [slot_of_resolved h hres hc, hdue, if_true]
    rfl
  · have hmap : e.groupMap = s.groupMap := (taken_and_resolved h hres).groupMap
    simp only [slot_of_resolved h hres hc, hdue, Bool.false_eq_true, if_false, State.retireSlot, hmap, keysHolding_eq, mapEraseSlot_eq]

/-- MAP_KEY whose key and form name something (R127). -/
theorem exec_mapKey_resolved (h : (s.elapse dt).taken .mapKey src = some r) (hk : field 0 2 r.payload < 4096)
    (hres : r.resolved 2 = some (i, wrap, e)) :
    (s.mayTakeKeys i = false → exec (.mapKey dt src) s = .next (r.reply .mapKey ((Answer.plain .wrongPhase).withWrap wrap) e)) ∧
    (∀ j, s.mayTakeKeys i = true → s.keyHeld (field 0 2 r.payload) = some j → j ≠ i →
      exec (.mapKey dt src) s = .next (r.reply .mapKey
        { code := .conflict, ind := { Indications.clear with wrap := wrap }, body := .heldSlot (some j) } e)) ∧
    (s.mayTakeKeys i = true → (∀ j, s.keyHeld (field 0 2 r.payload) = some j → j = i) →
      exec (.mapKey dt src) s = .next (r.reply .mapKey
        (.doneWrap wrap (.heldSlot (mapLookup (field 0 2 r.payload) s.groupMap)))
        { e with groupMap := mapInsert (field 0 2 r.payload) i s.groupMap })) := by
  have hfrom := taken_and_resolved h hres
  have hmap : e.groupMap = s.groupMap := hfrom.groupMap
  have hslots : e.slots = s.slots := hfrom.slots
  have hmay : e.mayTakeKeys i = s.mayTakeKeys i := by rw [State.mayTakeKeys, hslots]; rfl
  have hheld : e.keyHeld (field 0 2 r.payload) = s.keyHeld (field 0 2 r.payload) := by
    rw [State.keyHeld, hmap, hslots]; rfl
  refine ⟨fun htarget => atEvent_resolved hp h hres (mapKeyBlock_eq hk _) ?_,
    fun j htarget hj hne => atEvent_resolved (a := { code := .conflict, ind := .clear, body := .heldSlot (some j) }) hp h hres
      (mapKeyBlock_eq hk _) ?_,
    fun htarget hfree => atEvent_resolved (a := .done (.heldSlot (mapLookup (field 0 2 r.payload) s.groupMap))) hp h hres
      (mapKeyBlock_eq hk _) ?_⟩
  · simp only [hmay, htarget]
    rfl
  · have hfilter : (some j).filter (fun j => j != i) = some j := if_pos (bne_iff_ne.2 hne)
    simp only [hmay, htarget, hheld, hj, hfilter]
    rfl
  · have hfilter : (s.keyHeld (field 0 2 r.payload)).filter (fun j => j != i) = none := by
      cases hj : s.keyHeld (field 0 2 r.payload) with
      | none => rfl
      | some j => exact if_neg (by rw [bne_iff_ne]; exact not_not.2 (hfree j hj))
    simp only [hmay, htarget, hheld, hfilter, State.mapKey, hmap]
    rfl

end

theorem unmapKeyBlock_eq {p : Path} {n : Nat} {b : List Byte} (h : field 0 2 b < 4096) (s : State) :
    unmapKeyBlock p n b s = match mapLookup (field 0 2 b) s.groupMap with
      | none => refuse .noRecord s
      | some i => if s.slots[i].any fun c => c.phase.live then refuse .wrongPhase s
        else (s.unmapKey (field 0 2 b), .done (.heldSlot (some i))) :=
  if_neg (by omega)

/-- Settles O47, a part for each of CANCEL and RETIRE, the FREE slot, MAP_KEY and UNMAP_KEY. -/
theorem cancelRetireAndTheKeys : Obligations.CancelRetireAndTheKeys := by
  refine ⟨fun dt src s e r i wrap c hp hres hc => ⟨fun h => ?_, fun h => ?_⟩,
    fun dt src s e r i wrap hp hres hfree => ⟨fun h => ?_, fun h => ?_⟩, fun dt src s e r i wrap hp h => ?_,
    fun dt src s r hp h => ?_⟩
  · obtain ⟨hrefused, hdone⟩ := exec_cancel_of_some hp hres hc h
    exact ⟨fun hphase => hrefused (Phase.due_eq_false hphase), fun hu hx => hdone ((Phase.due_iff _).2 ⟨hu, hx⟩)⟩
  · obtain ⟨hrefused, hdone⟩ := exec_retire_of_some hp hres hc h
    exact ⟨fun hu hx => hrefused ((Phase.due_iff _).2 ⟨hu, hx⟩), fun hphase => hdone (Phase.due_eq_false hphase)⟩
  · exact atEvent_resolved hp h hres rfl (by simp only [slot_of_resolved h hres hfree]; rfl)
  · exact atEvent_resolved hp h hres rfl (by simp only [slot_of_resolved h hres hfree]; rfl)
  · intro k target
    have htarget : target ↔ s.mayTakeKeys i = true := State.mayTakeKeys_iff.symm
    refine ⟨fun hge => atEvent_taken hp h (if_pos (Nat.lt_of_succ_le hge)), fun hlt hres => ?_⟩
    obtain ⟨hrefused, hconflict, hdone⟩ := exec_mapKey_resolved hp h hlt hres
    refine ⟨fun hnot => hrefused (Bool.eq_false_iff.2 fun hm => hnot (htarget.2 hm)),
      fun j c ht hj hne hc hheld => hconflict j (htarget.1 ht) (State.keyHeld_eq_some hj hc hheld) hne, fun ht hfree => ?_⟩
    refine ⟨_, hdone (htarget.1 ht) fun j hj => ?_, fun k' => mapLookup_mapInsert k k' i s.groupMap⟩
    obtain ⟨hk, c, hc, hheld⟩ := State.keyHeld_cases hj
    by_contra hne
    rw [hfree j c hk hne hc] at hheld
    cases hheld
  · intro k
    have hfrom := State.taken_from h
    have hmap : r.state.groupMap = s.groupMap := hfrom.groupMap
    have hslots : r.state.slots = s.slots := hfrom.slots
    refine ⟨fun hge => atEvent_taken hp h (if_pos (Nat.lt_of_succ_le hge)), fun hlt hnone => atEvent_taken hp h ?_,
      fun i hlt hi => ⟨fun hlive => atEvent_taken hp h ?_, fun hdead => ?_⟩⟩
    · rw [unmapKeyBlock_eq hlt, hmap, hnone]; rfl
    · obtain ⟨c, hc, hlive⟩ := hlive
      rw [unmapKeyBlock_eq hlt, hmap, hi]
      simp only [hslots, hc, Option.any_some, hlive, if_true]
      rfl
    · have hany : ¬ s.slots[i].any (fun c => c.phase.live) = true := by
        rw [Option.any_eq_true]
        rintro ⟨c, hc, hlive⟩
        rw [hdead c hc] at hlive
        cases hlive
      refine ⟨mapErase k s.groupMap, atEvent_taken hp h ?_, fun k' => mapLookup_mapErase k k' s.groupMap⟩
      rw [unmapKeyBlock_eq hlt, hmap, hi]
      simp only [hslots, if_neg hany, State.unmapKey, hmap]
      rfl

end Sys2Proof.Machine
end

section
/-! PROOFS. SCHEDULE and RESCHEDULE (7.5, 7.6). -/

namespace Sys2Proof.Machine

/-! ### SCHEDULE (R121, R122) -/

theorem decodeSlot_of_eq {v : Nat} {i : Fin 64} (h : v = i.val) : decodeSlot v = some i := by
  subst h
  exact dif_pos i.isLt

theorem decodeSlot_of_ge {v : Nat} (h : 64 ≤ v) : decodeSlot v = none := dif_neg (by omega)

theorem any_key_out_of_range {keys : List Nat} : (keys.any fun k => decide (4095 < k)) = true ↔ ∃ k ∈ keys, 4096 ≤ k := by
  rw [List.any_eq_true]
  exact exists_congr fun k => and_congr_right fun _ => decide_eq_true_iff

theorem mapLookup_mapKeys (keys : List Nat) (i : Fin 64) (m : List (Nat × Fin 64)) (k : Nat) :
    mapLookup k (keys.foldl (fun m k => mapInsert k i m) m) = if k ∈ keys then some i else mapLookup k m := by
  induction keys generalizing m with
  | nil => simp
  | cons j keys ih =>
    rw [List.foldl_cons, ih, mapLookup_mapInsert]
    by_cases hk : k ∈ keys
    · simp [hk]
    · by_cases hj : k = j <;> simp [hk, hj]

theorem State.keyHeld_eq_none {s : State} {k : Nat}
    (h : ∀ j c, mapLookup k s.groupMap = some j → s.slots[j] = some c → c.phase.holdsKeys = false) : s.keyHeld k = none := by
  cases hk : s.keyHeld k with
  | none => rfl
  | some j =>
    obtain ⟨hlook, c, hc, hheld⟩ := State.keyHeld_cases hk
    rw [h j c hlook hc] at hheld
    cases hheld

theorem State.firstConflict_none {s : State} {keys : List Nat} (h : ∀ k ∈ keys, s.keyHeld k = none) : s.firstConflict keys = none :=
  List.findSome?_eq_none_iff.2 fun k hk => by rw [h k hk]; rfl

theorem State.firstConflict_some {s : State} {before after : List Nat} {k : Nat} {j : Fin 64}
    (hbefore : ∀ k' ∈ before, s.keyHeld k' = none) (hk : s.keyHeld k = some j) : s.firstConflict (before ++ k :: after) = some (k, j) := by
  have hnone : before.findSome? (fun k => (s.keyHeld k).map fun i => (k, i)) = none := State.firstConflict_none hbefore
  rw [State.firstConflict, List.findSome?_append, hnone, Option.none_or, List.findSome?_cons, hk]
  rfl

/-- A SCHEDULE of distinct keys one of whose encodings names nothing is RANGE (R168). -/
theorem scheduleBlock_undecoded {p : Path} {n : Nat} {b : List Byte} (hnodup : (keyList (b.drop 41)).Nodup)
    (hnone : decodeSchedule b = none) (s : State) : scheduleBlock p n b s = refuse .range s := by
  simp only [scheduleBlock, decide_eq_true hnodup, Bool.not_true, Bool.false_eq_true, if_false, hnone]

/-- A SCHEDULE of distinct keys that names no slot, or a key that is none, is RANGE (R121). -/
theorem scheduleBlock_out_of_range {p : Path} {n : Nat} {b : List Byte} {q : ScheduleFields} (hnodup : (keyList (b.drop 41)).Nodup)
    (hq : decodeSchedule b = some q) (hbad : 64 ≤ q.slot ∨ ∃ k ∈ keyList (b.drop 41), 4096 ≤ k) (s : State) :
    scheduleBlock p n b s = refuse .range s := by
  simp only [scheduleBlock, decide_eq_true hnodup, Bool.not_true, Bool.false_eq_true, if_false, hq]
  cases hslot : decodeSlot q.slot with
  | none => rfl
  | some i =>
    have hrange := hbad.resolve_left fun hge => by rw [decodeSlot_of_ge hge] at hslot; cases hslot
    exact if_pos (any_key_out_of_range.2 hrange)

/-- The checks that a SCHEDULE of distinct keys in range, of a slot of the table, meets after its decoding (R121). -/
theorem scheduleBlock_decoded {p : Path} {n : Nat} {b : List Byte} {q : ScheduleFields} {i : Fin 64}
    (hnodup : (keyList (b.drop 41)).Nodup) (hkeys : ∀ k ∈ keyList (b.drop 41), k < 4096) (hq : decodeSchedule b = some q)
    (hi : q.slot = i.val) (s : State) :
    scheduleBlock p n b s =
      if s.occupied i then refuse .wrongPhase s
      else if q.tOpen ≤ n then refuse .past s
      else q.required.elim (refuse .range s) fun required =>
        if !q.ok then refuse .range s
        else (s.firstConflict (keyList (b.drop 41))).elim
          (s.scheduleCall i (keyList (b.drop 41)) (q.call required), .done (.slotRevision i 1))
          fun x => (s, { code := .conflict, ind := .clear, body := .keyConflict x.1 x.2 }) := by
  have hrange : ¬ ((keyList (b.drop 41)).any fun k => decide (4095 < k)) = true := by
    rw [any_key_out_of_range]
    rintro ⟨k, hk, hge⟩
    have := hkeys k hk
    omega
  simp only [scheduleBlock, decide_eq_true hnodup, Bool.not_true, Bool.false_eq_true, if_false, hq, decodeSlot_of_eq hi, if_neg hrange]
  cases q.required with
  | none => rfl
  | some required => cases s.firstConflict (keyList (b.drop 41)) <;> rfl

/-- What a SCHEDULE that passes every check leaves (R122). -/
theorem scheduleCall_eq {u s : State} (hfrom : TakenFrom u s) (i : Fin 64) (keys : List Nat) (q : ScheduleFields) (required : Required) :
    let e := s.scheduleCall i keys (q.call required)
    let c := (q.call required).revised
    e = { s.handNotice q.notices (c.phaseNotice i) with
      slots := u.slots.set i (some c), groupMap := e.groupMap, expiry := e.expiry } ∧
    (∀ k, mapLookup k e.groupMap = if k ∈ keys then some i else mapLookup k u.groupMap) ∧
    expiryOf i e.expiry = some q.tOpen ∧ ∀ j, j ≠ i → expiryOf j e.expiry = expiryOf j u.expiry := by
  intro e c
  refine ⟨?_, fun k => ?_, ?_, fun j hj => ?_⟩
  · rw [← hfrom.slots]; rfl
  · rw [← hfrom.groupMap]; exact mapLookup_mapKeys keys i s.groupMap k
  · exact expiryOf_refile_same i (some q.tOpen) s.expiry
  · rw [← hfrom.expiry]; exact expiryOf_refile_other hj (some q.tOpen) s.expiry

/-- Settles O45: the checks in their order, and the call that passes them. -/
theorem scheduleChecksThenFillsTheSlot : Obligations.ScheduleChecksThenFillsTheSlot := by
  intro dt src s r hp h keys
  have hfrom := State.taken_from h
  have hoccupied : ∀ i, r.state.occupied i = s.slots[i].isSome := fun i => by rw [State.occupied, hfrom.slots]; rfl
  refine ⟨fun hdup => ?_, fun hnodup ⟨q, hq, hbad⟩ => ?_, fun hnodup hnone => ?_, fun q i hnodup hkeys hq hi hreq hfree hlt => ?_,
    fun q i required hnodup hkeys hq hi hreq => ?_⟩
  · exact atEvent_taken hp h (if_pos (by rw [decide_eq_false hdup]; rfl))
  · exact atEvent_taken hp h (scheduleBlock_out_of_range hnodup hq hbad _)
  · exact atEvent_taken hp h (scheduleBlock_undecoded hnodup hnone _)
  · have hfree' : ¬ r.state.occupied i = true := by rw [hoccupied, hfree]; exact Bool.false_ne_true
    refine atEvent_taken hp h ((scheduleBlock_decoded hnodup hkeys hq hi _).trans ?_)
    rw [if_neg hfree', if_neg (Nat.not_le.2 hlt), hreq]
    rfl
  · have hblock := scheduleBlock_decoded (p := r.path) (n := r.instant) hnodup hkeys hq hi r.state
    rw [hreq, Option.elim_some] at hblock
    have hnot : s.slots[i] = none → ¬ r.state.occupied i = true := fun hfree => by
      rw [hoccupied, hfree]; exact Bool.false_ne_true
    have hlook : ∀ k, r.state.keyHeld k = s.keyHeld k := fun k => by rw [State.keyHeld, hfrom.groupMap, hfrom.slots]; rfl
    refine ⟨fun hfull => atEvent_taken hp h (hblock.trans ?_), fun hfree hpast => atEvent_taken hp h (hblock.trans ?_),
      fun hfree hlt hok => atEvent_taken hp h (hblock.trans ?_),
      fun hfree hlt hok before after k j c hsplit hk hc hheld hbefore => atEvent_taken hp h (hblock.trans ?_),
      fun hfree hlt hok hclear => ?_⟩
    · exact if_pos (by rw [hoccupied]; exact hfull)
    · rw [if_neg (hnot hfree), if_pos hpast]; rfl
    · rw [if_neg (hnot hfree), if_neg (Nat.not_le.2 hlt), hok]; rfl
    · have hconflict : r.state.firstConflict keys = some (k, j) := by
        rw [hsplit]
        refine State.firstConflict_some (fun k' hk' => ?_) ?_
        · rw [hlook]; exact State.keyHeld_eq_none (hbefore k' hk')
        · rw [hlook]; exact State.keyHeld_eq_some hk hc hheld
      rw [if_neg (hnot hfree), if_neg (Nat.not_le.2 hlt), hok]
      exact congrArg (fun x => Option.elim x _ _) hconflict
    · intro c
      obtain ⟨heq, hmap, hdue, hother⟩ := scheduleCall_eq hfrom i keys q required
      refine ⟨_, atEvent_taken (a := .done (.slotRevision i 1)) hp h (hblock.trans ?_), heq, hmap, hdue, hother⟩
      have hnone : r.state.firstConflict keys = none :=
        State.firstConflict_none fun k hk => by rw [hlook]; exact State.keyHeld_eq_none (hclear k hk)
      rw [if_neg (hnot hfree), if_neg (Nat.not_le.2 hlt), hok]
      exact congrArg (fun x => Option.elim x _ _) hnone

/-! ### RESCHEDULE (R123, R124) -/

theorem TimeChange.ok_iff (q : TimeChange) :
    q.ok = true ↔ (∀ t, q.tOpen = some t → t ≤ 9223000000000000000) ∧ (∀ t, q.tSched = some t → t ≤ 9223000000000000000) ∧
      ∀ w, q.wr = some w → w ≤ 600000000 := by
  rw [TimeChange.ok, Bool.and_eq_true, Bool.and_eq_true, Option.all_eq_true, Option.all_eq_true, Option.all_eq_true, and_assoc]
  have hceiling : timeCeiling = 9223000000000000000 := rfl
  simp only [decide_eq_true_eq, hceiling]

theorem Call.schedOk_iff (arrival t : Nat) (c : Call) :
    c.schedOk arrival t = true ↔ arrival < t ∧ c.tOpen < t ∧ ∀ x, c.latestIn = some x → x < t := by
  rw [Call.schedOk, Bool.and_eq_true, Bool.and_eq_true, Option.all_eq_true, and_assoc]
  simp only [decide_eq_true_eq]

section
variable {s : State} {dt : Nat} {src : Source} {r : Taken} (hp : s.power = .running)
  (h : (s.elapse dt).taken .reschedule src = some r) {i : Fin 64} {wrap : Bool} {e : State} (hres : r.resolved 0 = some (i, wrap, e))
  (hchange : field 3 1 r.payload % 8 ≠ 0)
include hp h hres hchange

theorem exec_reschedule_undecoded (hnone : decodeChange r.payload = none) :
    exec (.reschedule dt src) s = .next (r.reply .reschedule ((Answer.plain .range).withWrap wrap) e) := by
  refine atEvent_resolved hp h hres rfl ?_
  simp only [noChange, beq_iff_eq, if_neg hchange, hnone]
  rfl

variable {q : TimeChange} (hq : decodeChange r.payload = some q)
include hq

theorem exec_reschedule_free (hfree : s.slots[i] = none) :
    exec (.reschedule dt src) s = .next (r.reply .reschedule ((Answer.plain .wrongPhase).withWrap wrap) e) := by
  refine atEvent_resolved hp h hres rfl ?_
  simp only [noChange, beq_iff_eq, if_neg hchange, hq, slot_of_resolved h hres hfree]
  rfl

variable {c : Call} (hc : s.slots[i] = some c)
include hc

theorem exec_reschedule_scheduled (hphase : c.phase = .scheduled) {t : State} {a : Answer}
    (hact : rescheduleScheduled i r.instant q c e = (t, a)) :
    exec (.reschedule dt src) s = .next (r.reply .reschedule (a.withWrap wrap) t) := by
  refine atEvent_resolved hp h hres rfl ?_
  simp only [noChange, beq_iff_eq, if_neg hchange, hq, slot_of_resolved h hres hc, hphase]
  exact hact

theorem exec_reschedule_call (hphase : c.phase = .call) {t : State} {a : Answer} (hact : rescheduleCall i r.instant q c e = (t, a)) :
    exec (.reschedule dt src) s = .next (r.reply .reschedule (a.withWrap wrap) t) := by
  refine atEvent_resolved hp h hres rfl ?_
  simp only [noChange, beq_iff_eq, if_neg hchange, hq, slot_of_resolved h hres hc, hphase]
  exact hact

theorem exec_reschedule_other (hsched : c.phase ≠ .scheduled) (hcall : c.phase ≠ .call) :
    exec (.reschedule dt src) s = .next (r.reply .reschedule ((Answer.plain .wrongPhase).withWrap wrap) e) := by
  refine atEvent_resolved hp h hres rfl ?_
  simp only [noChange, beq_iff_eq, if_neg hchange, hq, slot_of_resolved h hres hc]
  cases hphase : c.phase with
  | scheduled => exact absurd hphase hsched
  | call => exact absurd hphase hcall
  | window | extended | traceHold | settling | uncrossDue | cancelled => rfl

end

/-- Settles O46: the refusals before the phase, and the checks of each phase. -/
theorem rescheduleMovesTheTimes : Obligations.RescheduleMovesTheTimes := by
  intro dt src s e r i wrap hp h hres refused
  refine ⟨fun hno => atEvent_resolved hp h hres rfl (if_pos (beq_iff_eq.2 hno)),
    fun hchange hnone => exec_reschedule_undecoded hp h hres hchange hnone, fun q hchange hq =>
      ⟨fun hfree => exec_reschedule_free hp h hres hchange hq hfree, fun c hc => ?_⟩⟩
  intro c' ranged late written
  have hok : q.ok = true ↔ ranged := q.ok_iff
  have hlate : ∀ t, c.schedOk r.instant t = true ↔ late t := fun t => c.schedOk_iff r.instant t
  have hwritten : (∀ t a, e.retime i q c = (t, a) →
      exec (.reschedule dt src) s = .next (r.reply .reschedule (a.withWrap wrap) t)) → written := fun hrun =>
    ⟨fun hsame => hrun e (.done (.revision c.revision)) (if_pos hsame),
      fun hdiff => hrun (e.commit i c') (.done (.revision (c.revision + 1))) (if_neg hdiff)⟩
  refine ⟨fun hphase => ?_, fun hphase => ?_, fun hs hcall => exec_reschedule_other hp h hres hchange hq hc hs hcall⟩
  · have hrun := fun t a => exec_reschedule_scheduled hp h hres hchange hq hc hphase (t := t) (a := a)
    refine ⟨fun ⟨t, ht, hpast⟩ => hrun e (.plain .past) (if_pos ?_), fun hfuture => ?_⟩
    · rw [ht, Option.any_some, decide_eq_true hpast]
    · have hnotpast : ¬ q.tOpen.any (fun t => decide (t ≤ r.instant)) = true := by
        rw [Option.any_eq_true]
        rintro ⟨t, ht, hle⟩
        exact Nat.not_lt.2 (of_decide_eq_true hle) (hfuture t ht)
      refine ⟨fun hbad => hrun e (.plain .range) ?_, fun hranged hlt => hwritten fun t a hta => hrun t a ?_⟩
      · rw [rescheduleScheduled, if_neg hnotpast]
        refine if_pos ?_
        obtain hbad | hbad := hbad
        · rw [Bool.eq_false_iff.2 fun h => hbad (hok.1 h)]; rfl
        · exact Bool.or_eq_true_iff.2 (.inr (decide_eq_true hbad))
      · rw [rescheduleScheduled, if_neg hnotpast, hok.2 hranged]
        have hordered : ¬ (!true || decide ((c.retimed q).tSched ≤ (c.retimed q).tOpen)) = true := fun hle =>
          Nat.not_le.2 hlt (of_decide_eq_true hle)
        exact (if_neg hordered).trans hta
  · have hrun := fun t a => exec_reschedule_call hp h hres hchange hq hc hphase (t := t) (a := a)
    refine ⟨fun hopen => hrun e (.plain .wrongPhase) (if_pos hopen), fun hnone => ?_⟩
    have hnotopen : ¬ q.tOpen.isSome = true := by rw [hnone]; exact Bool.false_ne_true
    have hsched : q.tSched.all (c.schedOk r.instant) = true ↔ ∀ t, q.tSched = some t → late t := by
      rw [Option.all_eq_true]
      exact forall₂_congr fun t _ => hlate t
    refine ⟨fun hbad => hrun e (.plain .range) ?_, fun hranged hlater => hwritten fun t a hta => hrun t a ?_⟩
    · rw [rescheduleCall, if_neg hnotopen]
      refine if_pos ?_
      rw [Bool.or_eq_true, Bool.not_eq_true', Bool.not_eq_true', Bool.eq_false_iff, Bool.eq_false_iff, ne_eq, ne_eq, hok, hsched]
      exact not_and_or.1 hbad
    · rw [rescheduleCall, if_neg hnotopen, hok.2 hranged, hsched.2 hlater]
      exact hta

end Sys2Proof.Machine
end

section
/-! PROOFS. The expiries and EXTEND (chapter 8). -/

namespace Sys2Proof.Machine

/-! ### The expiries (R132 to R136, R142, R143, R146) -/

theorem State.onDue_due {s : State} {i : Fin 64} {c : Call} {due : Nat} (hc : s.slots[i] = some c) (hdue : expiryOf i s.expiry = some due)
    (hle : due ≤ s.ts.ns) (act : Call → State → State) : s.onDue i act = act c s := by
  have hentry : s.entryDue i = true := by
    rw [State.entryDue, hdue]
    exact decide_eq_true hle
  rw [State.onDue, hc]
  exact if_pos hentry

/-- A draw gives an end within the window, and none past T_sched where the window has no length (R136). -/
theorem windowOffset_lt (d : BitVec 32) (wr : Nat) :
    (wr = 0 → d.toNat * wr / 4294967296 = 0) ∧ (0 < wr → d.toNat * wr / 4294967296 < wr) := by
  refine ⟨fun h => by rw [h, Nat.mul_zero, Nat.zero_div], fun h => Nat.div_lt_of_lt_mul ?_⟩
  exact Nat.mul_lt_mul_of_pos_right d.isLt h

/-- Settles O49, an expiry for each phase that has a due time. -/
theorem expiriesMoveTheCallOn : Obligations.ExpiriesMoveTheCallOn := by
  intro dt i c due s hp hc u hdue hle
  have hact : ∀ act, u.onDue i act = act c u := State.onDue_due (s := u) hc hdue hle
  refine ⟨fun hphase => ⟨fun hin => atEvent_next hp ((hact _).trans ?_), fun hout => atEvent_next hp ((hact _).trans ?_)⟩,
    fun hphase => ⟨atEvent_next hp ((hact _).trans (if_pos hphase)), windowOffset_lt _ _⟩,
    fun e hphase he => ?_, fun hphase => atEvent_next hp ((hact _).trans (if_pos hphase))⟩
  · exact (if_pos hphase).trans (if_pos hin)
  · have hnot : ¬ u.inService = true := by rw [show u.inService = false from hout]; exact Bool.false_ne_true
    have hcancel : c.cancelledBy .missedOpen =
        { c with phase := .cancelled, cancelCause := some .missedOpen, tEnd := none, draw := none } := by
      rw [Call.cancelledBy, hphase]; rfl
    refine (if_pos hphase).trans ((if_neg hnot).trans ?_)
    rw [hcancel]
  · intro v g
    have hgrade : v.trace.dg = g := by
      show (u.evaluate u.ts.ns).trace.dg = g
      rw [State.evaluate_eq]
      rfl
    have hpend : c.phase.endPending = true := by obtain hp | hp | hp := hphase <;> rw [hp] <;> rfl
    have hend : ∀ t, v.closeOrHold i c g = t → exec (.endExpiry dt i) s = .next t := fun t ht =>
      atEvent_next hp ((hact _).trans ((if_pos hpend).trans ((congrArg (v.closeOrHold i c) hgrade).trans ht)))
    refine ⟨hgrade, fun hm => hend _ (closeOrHold_meets hm), fun hm hspent => hend _ (closeOrHold_spent hm hspent),
      fun hm hleft => hend _ ((closeOrHold_held hm hleft).trans ?_)⟩
    rw [Call.heldOn, he]
    rfl

/-! ### EXTEND (R137 to R140) -/

/-- The taking of ends leaves a record in its slot. -/
theorem takeEnds_occupied (i : Fin 64) (t n : Nat) (s : State) (h : s.slots[i].isSome = true) :
    (s.takeEnds i t n).slots[i].isSome = true := by
  induction n generalizing s with
  | zero => exact h
  | succ n ih =>
    obtain ⟨he, -⟩ | ⟨c, -, -, he⟩ := takeEnds_succ_cases s i t n
    · rw [he]; exact h
    · rw [he]
      refine ih _ ?_
      obtain ⟨dg, hs⟩ | ⟨-, hs⟩ := takeEnd_slot s i c <;> rw [hs] <;> rfl

/-- A call that is brought up stands in its slot. -/
theorem bringUp_occupied {s : State} {i : Fin 64} {c : Call} (hc : s.slots[i] = some c) (t : Nat) :
    ∃ c', (s.bringUp i t).slots[i] = some c' := by
  refine Option.isSome_iff_exists.1 (takeEnds_occupied i t _ _ ?_)
  by_cases hopen : c.phase = .call ∧ c.tSched ≤ t
  · have hs : s.openWindowBy i t = s.openWindow i c := by simp only [State.openWindowBy, hc, if_pos hopen]
    rw [hs, State.openWindow, State.commit_same]
    rfl
  · rw [openWindowBy_still hc hopen, hc]
    rfl

section
variable {s : State} {dt : Nat} {src : Source} {r : Taken} (hp : s.power = .running)
  (h : (s.elapse dt).taken .extend src = some r) {i : Fin 64} {wrap : Bool} {e : State} (hres : r.resolved 0 = some (i, wrap, e))
include hp h hres

/-- The judgement of an EXTEND against the record that the bringing up left (R137). -/
theorem exec_extend_judged {c c' : Call} (hc : s.slots[i] = some c) (hc' : (e.bringUp i r.instant).slots[i] = some c') {t : State}
    {a : Answer} (hact : (e.bringUp i r.instant).judgeExtend i r.instant (field 3 4 r.payload) (c.heldLength (field 3 4 r.payload)) c' =
      (t, a)) : exec (.extend dt src) s = .next (r.reply .extend (a.withWrap wrap) t) := by
  refine atEvent_resolved hp h hres rfl ?_
  simp only [slot_of_resolved h hres hc, hc']
  exact hact

end

section
variable {s : State} {i : Fin 64} {arrival carried applied : Nat} {c : Call}

theorem judgeExtend_spent (hp : c.phase = .call ∨ c.phase = .window ∨ c.phase = .extended) (hspent : c.extCap ≤ c.extUsed) :
    s.judgeExtend i arrival carried applied c = (s, extendRefused .limit i c.revision) := by
  obtain hp | hp | hp := hp <;> simp only [State.judgeExtend, hp, if_pos hspent]

theorem judgeExtend_call (hp : c.phase = .call) (hleft : c.extUsed < c.extCap) :
    s.judgeExtend i arrival carried applied c = s.extendTo i (c.extendedInCall applied) carried applied := by
  simp only [State.judgeExtend, hp, if_neg (Nat.not_le.2 hleft)]

theorem judgeExtend_window (hp : c.phase = .window ∨ c.phase = .extended) (hleft : c.extUsed < c.extCap) :
    s.judgeExtend i arrival carried applied c =
      s.countDraw.extendTo i (c.extendedInWindow arrival applied s.draw) carried applied := by
  obtain hp | hp := hp <;> simp only [State.judgeExtend, hp, if_neg (Nat.not_le.2 hleft)]

end

theorem Call.extendedInWindow_eq {c : Call} {arrival applied te : Nat} {d : BitVec 32} (hte : c.tEnd = some te) :
    c.extendedInWindow arrival applied d = { c with
      phase := .extended, tSched := arrival + applied * 1000000, extUsed := c.extUsed + 1, draw := some d
      tEnd := some (max te (arrival + applied * 1000000 + d.toNat * c.wr / 4294967296 * 1000)) } := by
  rw [Call.extendedInWindow, hte]
  rfl

theorem Call.extendedInCall_eq (c : Call) (applied : Nat) :
    c.extendedInCall applied = { c with tSched := c.tSched + applied * 1000000, extUsed := c.extUsed + 1 } := rfl

/-- Moving T_sched leaves the fields that a reply gives of the record. -/
theorem Call.kept_of_moved (c : Call) (t n : Nat) :
    ({ c with tSched := t, extUsed := n } : Call).revision = c.revision ∧ ({ c with tSched := t, extUsed := n } : Call).extUsed = n ∧
    ({ c with tSched := t, extUsed := n } : Call).extCap = c.extCap := ⟨rfl, rfl, rfl⟩

theorem Call.extendedInCall_kept (c : Call) (applied : Nat) :
    (c.extendedInCall applied).revision = c.revision ∧ (c.extendedInCall applied).extUsed = c.extUsed + 1 ∧
    (c.extendedInCall applied).extCap = c.extCap := by
  rw [c.extendedInCall_eq applied]
  exact c.kept_of_moved _ _

theorem Call.extendedInWindow_kept (c : Call) (arrival applied : Nat) (d : BitVec 32) :
    (c.extendedInWindow arrival applied d).revision = c.revision ∧
    (c.extendedInWindow arrival applied d).extUsed = c.extUsed + 1 ∧
    (c.extendedInWindow arrival applied d).extCap = c.extCap := ⟨rfl, rfl, rfl⟩

theorem openWindow_eq {s : State} {n : Nat} (hdraws : s.drawCount = n) (i : Fin 64) (c : Call) :
    s.openWindow i c = State.commit i { c with
      phase := .window, draw := some (Config.endDraw n)
      tEnd := some (c.tSched + (Config.endDraw n).toNat * c.wr / 4294967296 * 1000) } { s with drawCount := n + 1 } := by
  rw [← hdraws]
  rfl

/-- The DONE reply of an extended record that keeps its revision, in the terms of O50. -/
theorem extendDone_withWrap {i : Fin 64} {c x : Call} {carried applied : Nat} {wrap : Bool} (hrev : x.revision = c.revision)
    (hused : x.extUsed = c.extUsed + 1) (hcap : x.extCap = c.extCap) :
    (extendDone i x.revised carried applied).withWrap wrap =
      { code := .done, ind := { Indications.clear with held := decide (applied ≠ carried), wrap := wrap }
        body := .extended { slot := i, revision := c.revision + 1, phase := x.phase, tSched := x.tSched
                            extUsed := c.extUsed + 1, extCap := c.extCap, applied } } := by
  rw [← hrev, ← hused, ← hcap]
  rfl

/-- Settles O50: the FREE slot, the bringing up by phase, and the judgement by the phase it left. -/
theorem extensionsNeverBringTheEndEarlier : Obligations.ExtensionsNeverBringTheEndEarlier := by
  intro dt src s e r i wrap hp h hres refused
  refine ⟨fun hfree => ?_, fun c hc => ?_⟩
  · refine atEvent_resolved (a := extendRefused .wrongPhase i 0) hp h hres rfl ?_
    simp only [slot_of_resolved h hres hfree]
  · have hce := slot_of_resolved h hres hc
    have hdraws : e.drawCount = s.drawCount := (taken_and_resolved h hres).drawCount
    intro len applied b pending
    refine ⟨bringUp_idle hce, fun hcall => ⟨bringUp_before_sched hce hcall, fun hle => ?_⟩,
      fun te hpending hte => ⟨bringUp_before_end hce hpending hte, bringUp_takes hce hpending hte⟩, ?_⟩
    · exact (bringUp_opens hce hcall hle).trans (congrArg _ (openWindow_eq hdraws i c))
    · obtain ⟨c', hc'⟩ := bringUp_occupied hce r.instant
      refine ⟨c', hc', ?_⟩
      intro d sched extended
      have hrun : ∀ t a, b.judgeExtend i r.instant len applied c' = (t, a) →
          exec (.extend dt src) s = .next (r.reply .extend (a.withWrap wrap) t) := fun _ _ => exec_extend_judged hp h hres hc hc'
      have hextended : ∀ (x : Call) (u : State), x.revision = c'.revision → x.extUsed = c'.extUsed + 1 → x.extCap = c'.extCap →
          b.judgeExtend i r.instant len applied c' = u.extendTo i x len applied → extended x u :=
        fun x u hrev hused hcap hjudge => (hrun _ _ hjudge).trans (by rw [extendDone_withWrap hrev hused hcap])
      refine ⟨fun hphase => ⟨fun hspent => hrun b (extendRefused .limit i c'.revision) (judgeExtend_spent (.inl hphase) hspent),
          fun hleft => ?_⟩,
        fun te hphase hte => ⟨fun hspent => hrun b (extendRefused .limit i c'.revision) (judgeExtend_spent (.inr hphase) hspent),
          fun hleft => ?_⟩,
        fun hphase => hrun b (extendRefused .callHeld i c'.revision) ?_, fun hphase => hrun b (extendRefused .tooLate i c'.revision) ?_,
        fun hphase => hrun b (extendRefused .wrongPhase i c'.revision) ?_⟩
      · rw [← Call.extendedInCall_eq c' applied]
        obtain ⟨hrev, hused, hcap⟩ := c'.extendedInCall_kept applied
        exact hextended _ b hrev hused hcap (judgeExtend_call hphase hleft)
      · rw [← Call.extendedInWindow_eq hte]
        obtain ⟨hrev, hused, hcap⟩ := c'.extendedInWindow_kept r.instant applied d
        exact hextended _ b.countDraw hrev hused hcap (judgeExtend_window hphase hleft)
      · simp only [State.judgeExtend, hphase]
      · obtain hphase | hphase := hphase <;> simp only [State.judgeExtend, hphase]
      · obtain hphase | hphase := hphase <;> simp only [State.judgeExtend, hphase]

end Sys2Proof.Machine
end

section
/-! PROOFS. The operations port, the retained domain, power and reset (chapters 9 and 10). -/

namespace Sys2Proof.Machine

/-! ### The retained domain (R164, R165) -/

theorem decodeFlag_of_bool {v : Nat} {on : Bool} (h : v = on.toNat) : decodeFlag v = some on := by
  subst h
  cases on <;> rfl

theorem decodeFlag_of_ge {v : Nat} (h : 2 ≤ v) : decodeFlag v = none := by
  obtain ⟨n, rfl⟩ := Nat.exists_eq_add_of_le' h
  rfl

/-- RETAINED_WRITE by its choice, the write-enable and the range of the rate it carries (R165). -/
theorem retainedWriteBlock_eq {p : Path} {n : Nat} {b : List Byte} {clear : Bool} (h : field 0 1 b = clear.toNat) (s : State) :
    retainedWriteBlock p n b s =
      if !s.retained.writeEnable then refuse .wrongState s
      else if !clear && decide (500000000 < (signed 4 (field 1 4 b)).natAbs) then refuse .range s
      else s.writeRetained clear (signed 4 (field 1 4 b)) := by
  simp only [retainedWriteBlock, decodeFlag_of_bool h]

theorem retainedWriteBlock_bad {p : Path} {n : Nat} {b : List Byte} (h : 2 ≤ field 0 1 b) (s : State) :
    retainedWriteBlock p n b s = refuse .range s := by
  simp only [retainedWriteBlock, decodeFlag_of_ge h]

theorem retainedEnableBlock_eq {p : Path} {n : Nat} {b : List Byte} {on : Bool} (h : field 0 1 b = on.toNat) (s : State) :
    retainedEnableBlock p n b s = ({ s with retained := { s.retained with writeEnable := on } }, .done (.writeEnable on)) := by
  simp only [retainedEnableBlock, decodeFlag_of_bool h]

theorem retainedEnableBlock_bad {p : Path} {n : Nat} {b : List Byte} (h : 2 ≤ field 0 1 b) (s : State) :
    retainedEnableBlock p n b s = refuse .range s := by
  simp only [retainedEnableBlock, decodeFlag_of_ge h]

/-- Settles O56, a clause for each choice. -/
theorem retainedDomainIsReadAndWritten : Obligations.RetainedDomainIsReadAndWritten := by
  intro dt src s r hp choice rate
  refine ⟨fun h => ?_, fun h => ?_, fun h => ?_⟩
  · have hret : r.state.retained = s.retained := (State.taken_from h).retained
    refine ⟨fun on hon => atEvent_taken hp h ((retainedEnableBlock_eq hon _).trans (by rw [hret])),
      fun hge => atEvent_taken hp h (retainedEnableBlock_bad hge _)⟩
  · have hret : r.state.retained = s.retained := (State.taken_from h).retained
    exact atEvent_taken hp h (by rw [retainedReadBlock, hret])
  · have hret : r.state.retained = s.retained := (State.taken_from h).retained
    have hrun : ∀ clear t a, choice = Bool.toNat clear →
        (if !s.retained.writeEnable then refuse .wrongState r.state
          else if !clear && decide (500000000 < rate.natAbs) then refuse .range r.state
          else r.state.writeRetained clear rate) = (t, a) →
        exec (.retainedWrite dt src) s = .next (r.reply .retainedWrite a t) := fun clear t a hc hact =>
      atEvent_taken hp h ((retainedWriteBlock_eq hc _).trans (by rw [hret]; exact hact))
    refine ⟨fun hge => atEvent_taken hp h (retainedWriteBlock_bad hge _), fun hlt hoff => ?_,
      fun h0 hon hbig => hrun false r.state (.plain .range) h0 ?_, fun h0 hon hsmall => hrun false _ (.done (.savedRate true rate)) h0 ?_,
      fun h1 hon => hrun true _ (.done (.savedRate false 0)) h1 ?_⟩
    · have hclear : choice = Bool.toNat (decide (choice = 1)) := by
        by_cases h1 : choice = 1
        · rw [decide_eq_true h1]; exact h1
        · rw [decide_eq_false h1]; exact Nat.lt_one_iff.1 (by omega)
      exact hrun _ r.state (.plain .wrongState) hclear (by rw [hoff]; rfl)
    · rw [hon, decide_eq_true hbig]; rfl
    · rw [hon, decide_eq_false (Nat.not_lt.2 hsmall), State.writeRetained, hret]; rfl
    · rw [hon, State.writeRetained, hret]; rfl

/-! ### Power and reset (R6, R162, R163, R166, R167) -/

/-- The commands of power, of the pin and of the backup supply, at a part held at reset (R162, R163). -/
theorem exec_power_held {s : State} {cause : ResetCause} (h : s.power = .held cause) :
    exec .runStart s = .next { s.beginRun cause with resetPin := false } ∧ exec .powerOn s = .next s ∧
    exec .resetPinAsserted s = .next { s with resetPin := true } ∧ exec .backupSupplyLoss s = .next { s with backup := false } ∧
    exec .powerLoss s = .next s.powerFalls := by
  simp only [exec, execRunStart, execPowerOn, execResetPinAsserted, execBackupSupplyLoss, execPowerLoss, h, and_self]

/-- The same at a running part. -/
theorem exec_power_running {s : State} (h : s.power = .running) :
    exec .runStart s = .next s ∧ exec .powerOn s = .next s ∧ exec .backupSupplyLoss s = .next { s with backup := false } ∧
    exec .resetPinAsserted s = .next { State.blocksAtReset s.retained s with power := .held .resetPin, resetPin := true } ∧
    exec .powerLoss s = .next s.powerFalls := by
  simp only [exec, execRunStart, execPowerOn, execResetPinAsserted, execBackupSupplyLoss, execPowerLoss, h, and_self]

/-- The same without main power. -/
theorem exec_power_off {s : State} (h : s.power = .off) :
    exec .runStart s = .next s ∧ exec .powerLoss s = .next s ∧ exec .resetPinAsserted s = .next { s with resetPin := true } ∧
    exec .backupSupplyLoss s = .next { s with retained := .lost, backup := false } ∧
    exec .powerOn s = .next { State.blocksAtReset s.retained s with power := .held .powerOn, backup := true } := by
  simp only [exec, execRunStart, execPowerOn, execResetPinAsserted, execBackupSupplyLoss, execPowerLoss, h, and_self]

/-- Settles O57: a part held at reset, one that runs, one without main power, the loss of main power, and the warm start. -/
theorem runsBeginAtResetValues : Obligations.RunsBeginAtResetValues := by
  refine ⟨fun s cause h => ?_, fun s h => ?_, fun s h => ?_, fun s h => ?_, fun s cause => ⟨fun hv => ?_, fun hv => ?_⟩⟩
  · obtain ⟨hrun, hon, hpin, hbackup, -⟩ := exec_power_held h
    exact ⟨hrun, hon, hpin, hbackup⟩
  · obtain ⟨hrun, hon, hbackup, hpin, -⟩ := exec_power_running h
    exact ⟨fun dt tag hspi hempty => exec_systemReset h hspi hempty dt tag, hrun, hon, hbackup, _, hpin, rfl, rfl, rfl, rfl⟩
  · obtain ⟨hrun, hloss, hpin, hbackup, hon⟩ := exec_power_off h
    exact ⟨hrun, hloss, hpin, hbackup, _, hon, rfl, rfl, rfl, rfl⟩
  · have hfalls : exec .powerLoss s = .next s.powerFalls := by
      cases hp : s.power with
      | off => exact absurd hp h
      | held cause =>
        obtain ⟨-, -, -, -, hloss⟩ := exec_power_held hp
        exact hloss
      | running =>
        obtain ⟨-, -, -, -, hloss⟩ := exec_power_running hp
        exact hloss
    exact ⟨_, hfalls, rfl, rfl, rfl⟩
  · have hrate : (s.inRun cause).ts.rate = holdRate TimescaleSettings.atReset.rateLimit s.retained.savedRate := if_pos hv
    have hheld : (s.inRun cause).ts.rateHeld =
        (s.retained.valid && decide (holdRate TimescaleSettings.atReset.rateLimit s.retained.savedRate ≠ s.retained.savedRate)) := rfl
    refine ⟨hrate, ?_⟩
    rw [hheld, hrate, hv, Bool.true_and]
  · have hheld : (s.inRun cause).ts.rateHeld =
        (s.retained.valid && decide (holdRate TimescaleSettings.atReset.rateLimit s.retained.savedRate ≠ s.retained.savedRate)) := rfl
    have hrate : (s.inRun cause).ts.rate = 0 := if_neg (by rw [hv]; exact Bool.false_ne_true)
    exact ⟨hrate, by rw [hheld, hv, Bool.false_and]⟩

/-! ### Transactions at the port (R151, R152, R154, R159) -/

theorem statusByte_toNat {s : State} (hp : s.power = .running) :
    s.statusByte.toNat = (if s.ops.reply = none then 0 else 1) +
      2 * (match s.ops.lastWrite with | .none => 0 | .taken => 1 | .busy => 2 | .discarded => 3) +
      8 * (if s.ops.alerts &&& s.ops.mask = 0 then 0 else 1) := by
  have hline : s.alertLine.toNat = if s.ops.alerts &&& s.ops.mask = 0 then 0 else 1 := by
    simp only [State.alertLine, hp]
    by_cases h : s.ops.alerts &&& s.ops.mask = 0
    · rw [if_pos h, h]; rfl
    · rw [if_neg h, bne_iff_ne.2 h]; rfl
  have hreply : s.ops.reply.isSome.toNat = if s.ops.reply = none then 0 else 1 := by
    cases s.ops.reply <;> rfl
  rw [State.statusByte, hline, hreply, BitVec.toNat_ofNat]
  have hcode : s.ops.lastWrite.code ≤ 3 := by cases s.ops.lastWrite <;> decide
  have hmatch : s.ops.lastWrite.code = (match s.ops.lastWrite with | .none => 0 | .taken => 1 | .busy => 2 | .discarded => 3) := by
    cases s.ops.lastWrite <;> rfl
  rw [← hmatch, Nat.mod_eq_of_lt]
  split <;> split <;> omega

/-- Without a WRITE in progress no WRITE is released (R152; assumption 2). -/
theorem write_idle {s : State} (h : s.ops.spi ≠ some 165) (bytes : List Byte) :
    writeDiscarded bytes s = s ∧ writeBusy bytes s = s := by
  refine ⟨?_, ?_⟩
  · rw [writeDiscarded]
    split
    · exact if_neg h
    · rfl
  · rw [writeBusy]
    split
    · exact if_neg h
    · rfl

theorem writeDiscarded_of_bad {s : State} {bytes : List Byte} (h : s.ops.spi = some 165) (hbad : parseFrame bytes = none) :
    writeDiscarded bytes s = { s with ops := { s.ops with lastWrite := .discarded, spi := none } } := by
  rw [writeDiscarded, hbad]
  exact if_pos h

theorem opsTransfer_read {s : State} {part : OpsTransfer} (hpart : part = .complete ∨ ∃ n, part = .released n)
    (h : s.ops.spi = some 90) : opsTransfer part s = { s with ops := s.ops.endRead part } := by
  obtain rfl | ⟨n, rfl⟩ := hpart <;> exact if_pos h

theorem opsTransfer_idle {s : State} {part : OpsTransfer} (hpart : part = .complete ∨ ∃ n, part = .released n)
    (h : s.ops.spi ≠ some 90) : opsTransfer part s = s := by
  obtain rfl | ⟨n, rfl⟩ := hpart <;> exact if_neg h

theorem OpsPort.endRead_complete {o : OpsPort} {r : Reply} (h : o.reply = some r) :
    o.endRead .complete = { o with spi := none, shiftOut := o.shiftOut ++ r.bytes, reply := none } := by
  simp only [OpsPort.endRead, h]
  rfl

theorem OpsPort.endRead_released {o : OpsPort} {r : Reply} (h : o.reply = some r) (n : Nat) :
    (n < r.bytes.length →
      o.endRead (.released n) = { o with spi := none, shiftOut := o.shiftOut ++ r.bytes.take n, reply := some r }) ∧
    (r.bytes.length ≤ n → o.endRead (.released n) =
      { o with spi := none, shiftOut := o.shiftOut ++ (r.bytes ++ pastReplyBytes (n - r.bytes.length)), reply := none }) := by
  refine ⟨fun hlt => ?_, fun hge => ?_⟩
  · simp only [OpsPort.endRead, h, if_neg (Nat.not_le.2 hlt)]
    rw [OpsPort.release, h]
  · simp only [OpsPort.endRead, h, if_pos hge]
    rfl

theorem OpsPort.endRead_empty {o : OpsPort} (h : o.reply = none) (n : Nat) :
    o.endRead (.released n) = { o with spi := none, shiftOut := o.shiftOut ++ List.replicate n 0, reply := none } := by
  simp only [OpsPort.endRead, h]
  rw [OpsPort.release, h]

theorem DeviceLimits.movesSettle_iff (held new : DeviceLimits) :
    held.movesSettle new = true ↔ new.cmax ≠ held.cmax ∨ new.settleGuard ≠ held.settleGuard := by
  rw [DeviceLimits.movesSettle, Bool.or_eq_true, bne_iff_ne, bne_iff_ne]

/-- Settles O54: the first byte, the releases of WRITE and READ, the status byte, and SET_DEVICE_LIMITS. -/
theorem transactionsAndDeviceLimits : Obligations.TransactionsAndDeviceLimits := by
  refine ⟨fun dt s hp => ⟨fun first => atEvent_next hp rfl, ?_, fun hidle bytes => ?_, ?_, fun hidle => ?_, statusByte_toNat hp⟩,
    fun dt src s r hp h => ⟨fun hnone => atEvent_taken hp h ?_, fun d hd => ?_⟩⟩
  · intro judged hspi
    refine ⟨fun bytes hbad => atEvent_next hp (writeDiscarded_of_bad (s := s.elapse dt) hspi hbad), fun held hheld =>
      ⟨fun bytes f hf => atEvent_next hp (writeBusy_held (s := s.elapse dt) hf hspi hheld), fun c k tag payload hc hdt hlen => ?_⟩⟩
    obtain ⟨act, he⟩ := exec_request_at_port hc s
    rw [he, hdt]
    exact atEvent_next hp (opsWrite_busy (s := s.elapse dt) hspi hlen hheld act)
  · obtain ⟨hdiscarded, hbusy⟩ := write_idle (s := s.elapse dt) hidle bytes
    refine ⟨atEvent_next hp hdiscarded, atEvent_next hp hbusy, fun c k tag payload hc hdt => ?_⟩
    obtain ⟨act, he⟩ := exec_request_at_port hc s
    rw [he, hdt]
    exact atEvent_next hp (if_neg hidle)
  · intro released hspi
    have hread : ∀ part o, (part = .complete ∨ ∃ n, part = .released n) → s.ops.endRead part = o →
        exec (.opsRead dt part) s = .next { s.elapse dt with ops := o } := fun part o hpart ho =>
      atEvent_next hp ((opsTransfer_read (s := s.elapse dt) hpart hspi).trans (by rw [← ho]; rfl))
    refine ⟨fun held hheld => ⟨hread _ _ (.inl rfl) (OpsPort.endRead_complete hheld), fun n => ⟨fun hlt => ?_, fun hge => ?_⟩⟩,
      fun hempty n => hread _ _ (.inr ⟨n, rfl⟩) (OpsPort.endRead_empty hempty n)⟩
    · exact hread _ _ (.inr ⟨n, rfl⟩) ((OpsPort.endRead_released hheld n).1 hlt)
    · refine ⟨pastReplyBytes (n - held.bytes.length), ?_, hread _ _ (.inr ⟨n, rfl⟩) ((OpsPort.endRead_released hheld n).2 hge)⟩
      rw [pastReplyBytes, List.length_map, List.length_range]
  · exact ⟨atEvent_next hp (opsTransfer_idle (s := s.elapse dt) (.inl rfl) hidle),
      fun n => atEvent_next hp (opsTransfer_idle (s := s.elapse dt) (.inr ⟨n, rfl⟩) hidle)⟩
  · simp only [setDeviceLimitsBlock, hnone]
    rfl
  · have hlimits : r.state.ops.limits = s.ops.limits := (State.taken_from h).limits
    have hlive : r.state.anyLive = s.anyLive := by rw [State.anyLive, (State.taken_from h).slots]; rfl
    intro moves
    have hmoves : r.state.ops.limits.movesSettle d = true ↔ moves := by
      rw [hlimits]; exact DeviceLimits.movesSettle_iff _ _
    refine ⟨fun hm hany => atEvent_taken hp h ?_, fun hfree => atEvent_taken hp h ?_⟩
    · simp only [setDeviceLimitsBlock, hd, hmoves.2 hm, hlive, hany, Bool.and_self, if_true]
      rfl
    · have hno : ¬ (r.state.ops.limits.movesSettle d && r.state.anyLive) = true := by
        rw [Bool.and_eq_true, hmoves, hlive]
        rintro ⟨hm, hany⟩
        obtain hnot | hnone := hfree
        · exact hnot hm
        · rw [hnone] at hany; cases hany
      simp only [setDeviceLimitsBlock, hd, if_neg hno]

end Sys2Proof.Machine
end

section
/-! PROOFS. Frames, times and the frame check read back (11.1, 11.2). -/

namespace Sys2Proof.Machine

/-! ### Multi-byte fields (11.1) -/

theorem be_concat (xs : List Byte) (b : Byte) : be (xs ++ [b]) = be xs * 256 + b.toNat := by
  rw [be, List.foldl_append]
  rfl

theorem length_toBytes (n v : Nat) : (toBytes n v).length = n := by
  induction n generalizing v with
  | zero => rfl
  | succ n ih => rw [toBytes, List.length_append, ih, List.length_singleton]

/-- A number written in `n` bytes is read back, where `n` bytes hold it. -/
theorem be_toBytes {n v : Nat} (h : v < 256 ^ n) : be (toBytes n v) = v := by
  induction n generalizing v with
  | zero =>
    rw [pow_zero] at h
    exact (Nat.lt_one_iff.1 h).symm
  | succ n ih =>
    have hhigh : v / 256 < 256 ^ n := Nat.div_lt_of_lt_mul (by rw [Nat.mul_comm, ← pow_succ]; exact h)
    rw [toBytes, be_concat, ih hhigh, BitVec.toNat_ofNat]
    omega

/-- A field that stands between two runs of bytes is what it holds. -/
theorem field_between {pre xs post : List Byte} {off n : Nat} (hoff : off = pre.length) (hn : n = xs.length) :
    field off n (pre ++ xs ++ post) = be xs := by
  subst hoff hn
  rw [field, List.append_assoc, List.drop_left, List.take_left]

theorem be_singleton (b : Byte) : be [b] = b.toNat := Nat.zero_add _

/-! ### Frames (11.2, R68) -/

/-- The four bytes of a frame before its payload. -/
def frameHeader (kind : Byte) (tag : Tag) (n : Byte) : List Byte := [kind] ++ toBytes 2 tag.toNat ++ [n]

theorem length_frameHeader (kind : Byte) (tag : Tag) (n : Byte) : (frameHeader kind tag n).length = 4 := by
  rw [frameHeader, List.length_append, List.length_append, length_toBytes, List.length_singleton, List.length_singleton]

theorem toNat_lt_two_bytes (v : BitVec 16) : v.toNat < 256 ^ 2 := v.isLt

/-- What the header's fields hold, whatever follows them. -/
theorem field_frameHeader (kind : Byte) (tag : Tag) (n : Byte) (rest : List Byte) :
    field 0 1 (frameHeader kind tag n ++ rest) = kind.toNat ∧ field 1 2 (frameHeader kind tag n ++ rest) = tag.toNat ∧
    field 3 1 (frameHeader kind tag n ++ rest) = n.toNat := by
  refine ⟨?_, ?_, ?_⟩
  · have hsplit : frameHeader kind tag n ++ rest = [] ++ [kind] ++ (toBytes 2 tag.toNat ++ [n] ++ rest) := by
      simp only [frameHeader, List.append_assoc, List.nil_append]
    rw [hsplit]
    exact (field_between (pre := []) (xs := [kind]) rfl rfl).trans (be_singleton kind)
  · have hsplit : frameHeader kind tag n ++ rest = [kind] ++ toBytes 2 tag.toNat ++ ([n] ++ rest) := by
      simp only [frameHeader, List.append_assoc]
    rw [hsplit]
    exact (field_between (pre := [kind]) rfl (length_toBytes _ _).symm).trans (be_toBytes (toNat_lt_two_bytes tag))
  · exact (field_between (pre := [kind] ++ toBytes 2 tag.toNat) (xs := [n]) rfl rfl).trans (be_singleton n)

theorem parseFrame_frameBytes (kind : Byte) (tag : Tag) {payload : List Byte} (h : payload.length ≤ 248) :
    parseFrame (frameBytes kind tag payload) = some { kind, tag, payload } := by
  obtain ⟨body, hbody⟩ : ∃ body, frameHeader kind tag (BitVec.ofNat 8 payload.length) ++ payload = body := ⟨_, rfl⟩
  obtain ⟨check, hcheck⟩ : ∃ check, toBytes 2 (frameCheck body).toNat = check := ⟨_, rfl⟩
  have hbytes : frameBytes kind tag payload = body ++ check := by
    rw [← hcheck, ← hbody]
    simp only [frameBytes, frameHeader, List.append_assoc, List.cons_append, List.nil_append]
  have hlen : body.length = payload.length + 4 := by rw [← hbody, List.length_append, length_frameHeader, Nat.add_comm]
  have hchecklen : check.length = 2 := by rw [← hcheck, length_toBytes]
  have htotal : (body ++ check).length = payload.length + 6 := by rw [List.length_append, hlen, hchecklen]
  have hcut : (body ++ check).length - 2 = body.length := by omega
  have hsplit : body ++ check = frameHeader kind tag (BitVec.ofNat 8 payload.length) ++ (payload ++ check) := by
    rw [← hbody, List.append_assoc]
  obtain ⟨hkind, htag, hlength⟩ := field_frameHeader kind tag (BitVec.ofNat 8 payload.length) (payload ++ check)
  rw [BitVec.toNat_ofNat, Nat.mod_eq_of_lt (by omega : payload.length < 2 ^ 8)] at hlength
  rw [← hsplit] at hkind htag hlength
  have hgood : be check = (frameCheck body).toNat := by rw [← hcheck, be_toBytes (toNat_lt_two_bytes _)]
  have hdrop : body.drop 4 = payload := by rw [← hbody, List.drop_left' (length_frameHeader _ _ _)]
  have hwhole : ¬ ((body ++ check).length < 6 ∨ 248 < payload.length ∨ (body ++ check).length ≠ payload.length + 6 ∨
      be check ≠ (frameCheck body).toNat) := by
    rintro (hshort | hlong | hwrong | hbad)
    · omega
    · omega
    · exact hwrong htotal
    · exact hbad hgood
  rw [hbytes, parseFrame]
  simp only [hcut, List.take_left, List.drop_left, hkind, htag, hlength, hdrop]
  rw [if_neg hwhole, BitVec.ofNat_toNat, BitVec.ofNat_toNat, BitVec.setWidth_eq, BitVec.setWidth_eq]

/-! ### Times (11.1) -/

theorem decodeTime_timeBytes (pre post : List Byte) {t : Option Nat} (h : ∀ x, t = some x → x ≤ maxNs) :
    decodeTime pre.length (pre ++ timeBytes t ++ post) = some t := by
  have hfields : ∀ secs word, secs < 256 ^ 5 → word < 256 ^ 4 →
      field pre.length 5 (pre ++ (toBytes 5 secs ++ toBytes 4 word) ++ post) = secs ∧
      field (pre.length + 5) 4 (pre ++ (toBytes 5 secs ++ toBytes 4 word) ++ post) = word := fun secs word hs hw => by
    have hfirst : pre ++ (toBytes 5 secs ++ toBytes 4 word) ++ post = pre ++ toBytes 5 secs ++ (toBytes 4 word ++ post) := by
      simp only [List.append_assoc]
    have hsecond : pre ++ (toBytes 5 secs ++ toBytes 4 word) ++ post = (pre ++ toBytes 5 secs) ++ toBytes 4 word ++ post := by
      simp only [List.append_assoc]
    refine ⟨?_, ?_⟩
    · rw [hfirst, field_between rfl (length_toBytes _ _).symm, be_toBytes hs]
    · rw [hsecond, field_between (by rw [List.length_append, length_toBytes]) (length_toBytes _ _).symm, be_toBytes hw]
  rw [decodeTime]
  cases t with
  | none =>
    obtain ⟨-, hword⟩ := hfields 0 (2 ^ 31) (by norm_num) (by norm_num)
    simp only [timeBytes, hword, le_refl, if_true]
  | some x =>
    have hx := h x rfl
    have hmod := Nat.mod_lt x (show 0 < 1000000000 by norm_num)
    have hdiv := Nat.div_add_mod' x 1000000000
    have hsmall : x / 1000000000 ≤ 9223372036 := by
      have : x ≤ 9223372036854775807 := hx
      omega
    obtain ⟨hsecs, hword⟩ := hfields (x / 1000000000) (x % 1000000000) (lt_of_le_of_lt hsmall (by norm_num))
      (lt_trans hmod (by norm_num))
    simp only [timeBytes, second, hsecs, hword, hdiv]
    rw [if_neg (by omega), if_neg]
    rintro (hbig | hbig)
    · omega
    · exact Nat.not_lt.2 hx hbig

/-! ### The frame check (R169) -/

/-- One bit of the check leaves the top bit of its register at the bottom. -/
theorem crcBit_getLsbD_zero (r : BitVec 16) : (crcBit r).getLsbD 0 = r.msb := by
  rw [crcBit]
  split <;> simp_all

theorem crcBit_injective : Function.Injective crcBit := by
  intro r q h
  have hmsb : r.msb = q.msb := by rw [← crcBit_getLsbD_zero, h, crcBit_getLsbD_zero]
  have hshift : r <<< 1 = q <<< 1 := by
    rw [crcBit, crcBit, hmsb] at h
    split at h
    · exact (BitVec.xor_left_inj _).1 h
    · exact h
  ext i hi
  obtain hlast | hlow : i = 15 ∨ i + 1 < 16 := by omega
  · subst hlast
    exact (BitVec.msb_eq_getLsbD_last r).symm.trans (hmsb.trans (BitVec.msb_eq_getLsbD_last q))
  · have hbit : (r <<< 1).getLsbD (i + 1) = (q <<< 1).getLsbD (i + 1) := by rw [hshift]
    simpa [hlow] using hbit

/-- Two bytes of the check leave one register exactly where they enter it alike. -/
theorem crcByte_eq_iff {r q : BitVec 16} {b c : Byte} :
    crcByte r b = crcByte q c ↔ r ^^^ (b.setWidth 16 <<< 8) = q ^^^ (c.setWidth 16 <<< 8) := by
  simp only [crcByte, crcBit_injective.eq_iff]

theorem crcByte_injective_register (b : Byte) : Function.Injective fun r => crcByte r b := fun _ _ h =>
  (BitVec.xor_left_inj _).1 (crcByte_eq_iff.1 h)

theorem crcByte_injective_byte (r : BitVec 16) : Function.Injective (crcByte r) := by
  intro b c h
  have hshift : b.setWidth 16 <<< 8 = c.setWidth 16 <<< 8 := (BitVec.xor_right_inj r).1 (crcByte_eq_iff.1 h)
  refine BitVec.eq_of_getLsbD_eq fun i hi => ?_
  have hbit : (b.setWidth 16 <<< 8).getLsbD (i + 8) = (c.setWidth 16 <<< 8).getLsbD (i + 8) := by rw [hshift]
  have hlow : i + 8 < 16 := by omega
  have hin : i < 16 := by omega
  simpa [hlow, hin] using hbit

theorem foldl_crcByte_injective (bs : List Byte) : Function.Injective fun r => bs.foldl crcByte r := by
  induction bs with
  | nil => exact fun _ _ h => h
  | cons b bs ih => exact ih.comp (crcByte_injective_register b)

theorem foldl_crcByte_set_ne {bs : List Byte} {i : Nat} {b : Byte} (h : i < bs.length) (hb : b ≠ bs[i]) (r : BitVec 16) :
    (bs.set i b).foldl crcByte r ≠ bs.foldl crcByte r := by
  induction bs generalizing i r with
  | nil => cases h
  | cons x bs ih =>
    cases i with
    | zero => exact fun he => hb (crcByte_injective_byte r (foldl_crcByte_injective bs he))
    | succ i => exact ih (Nat.lt_of_succ_lt_succ h) hb (crcByte r x)

/-- Settles O60. -/
theorem framesAndTimesReadBack : Obligations.FramesAndTimesReadBack :=
  ⟨fun kind tag _ h => parseFrame_frameBytes kind tag h, fun pre post _ h => decodeTime_timeBytes pre post h,
    fun _ _ _ h hb => foldl_crcByte_set_ne h hb _⟩

end Sys2Proof.Machine
end
